-- ==== Sys2Proof/Word.lean ====
section
/-! DEFINITION. The word types of the CORE (00_scope.md R12): a byte is 8 bits, a word 32 bits, a window offset 12 bits. All values are unsigned. -/

namespace Sys2Proof

/-- A byte (R12). -/
abbrev Byte := BitVec 8

/-- A word (R12): the unit of every register of the window and of every host access. -/
abbrev Word := BitVec 32

/-- A byte offset into the 4096-byte register window (20_memory.md R40). -/
abbrev Offset := BitVec 12

end Sys2Proof
end

