-- ==== Sys2Proof/Config.lean ====
section
/-! DEFINITION. What this implementation fixes (NB, SUB_BACKEND) and the free values of the spec (CORE_BASE, command latency, don't-care lanes), which have no body, so that nothing can be proved of their value. -/

namespace Sys2Proof.Config

/-- `NB`, the batch width in blocks (00_scope.md R6): this hardware takes 4. -/
abbrev nb : Nat := 4

/-- The two ways the Substitution Engine may evaluate the S-box (00_scope.md R7). -/
inductive SubBackend where
  | aesConj
  | table
  deriving DecidableEq, Repr

/-- `SUB_BACKEND` of this hardware (R7). No observable result depends on it (41_substitution.md R82). -/
def subBackend : SubBackend := .aesConj

/-- The number of the 4096-byte page at which the platform places the window: OPEN (R8, D2). -/
opaque basePage : Nat

/-- `CORE_BASE` (R8): "any platform address aligned to 4096" (92_eei_decisions.md, parameters). -/
def coreBase : Nat := 4096 * basePage

/-- How many host steps at most pass between the acceptance of the `n`-th accepted command and its completion.
"Command latency is unspecified" and finite (R10, I16): a free value (log entry 3). -/
opaque latency : Nat → Nat

/-- What fills a lane of the engine register for which the batch has no word (41_substitution.md R78, I15):
a free value, whose result is dropped (log entry 7). -/
opaque dontCareLane : Nat → Word

end Sys2Proof.Config
end

