-- ==== Sys2Proof/Machine/State.lean ====
section
/-! DEFINITION. The state of the CORE and its surroundings as plain data (10_state.md), the reasons a step can stop, and the state after reset (70_reset_and_hazards.md R119). -/

namespace Sys2Proof.Machine

/-- The two kinds of agent that make steps (00_scope.md R11). -/
inductive Agent where
  | host
  | core
  deriving DecidableEq, Repr

/-- The opcodes a pending command can have: what the latch `PEND` holds (10_state.md R32, 30_encoding.md R53). -/
inductive Op where
  | nop
  | keygen
  | encb
  | decb
  | sbox16
  deriving DecidableEq, Repr

/-- The outcome codes of `STATUS.ERR` (10_state.md R26, 60_exceptions.md R105). Codes 4 to 15 are never produced. -/
inductive ErrCode where
  | ok
  | invalidInput
  | illegalCmd
  | noSchedule
  deriving DecidableEq, Repr

/-- The reasons of a bus error (60_exceptions.md R106). -/
inductive BusReason where
  | size
  | align
  | unmapped
  | ro
  | busy
  deriving DecidableEq, Repr

/-- One host access (00_scope.md R15): its size in bytes and its window offset. The value of a write is one word:
a write of another size has no effect whatever it carries (20_memory.md R43). -/
inductive HostAccess where
  | read (size : Nat) (off : Offset)
  | write (size : Nat) (off : Offset) (v : Word)
  deriving DecidableEq, Repr

/-- What the outside does to the CORE: a host access (R11) or an assertion of the platform's reset
(70_reset_and_hazards.md R119). -/
inductive Event where
  | access (a : HostAccess)
  | reset
  deriving DecidableEq, Repr

/-- An entry of `FAULTS` (10_state.md R39): a bus error with the access that met it, or a `ModelFault(NOVALUE)` of a
host read or of a completion (60_exceptions.md R106, R107). -/
inductive FaultEvent where
  | busError (reason : BusReason) (a : HostAccess)
  | noValueRead (a : HostAccess)
  | noValueCompletion (op : Op)
  deriving DecidableEq, Repr

/-- What a host access is answered. `error` is a bus error: "The hardware signals only that an error occurred, with no
reason code" (R106). `noValue` is a read of a ⊥ word, for which the model gives no number (R16, R107). -/
inductive Reply where
  | data (v : Word)
  | ack
  | error
  | noValue
  deriving DecidableEq, Repr

/-- The state. `none` in `key`, `rk`, `buf` and `pend` is the spec's ⊥ (00_scope.md R15, R16). The fields from `stuck`
on are the model's own (log entries 2, 3 and 5); `faults` is the record of R39. -/
structure State where
  /-- `STATUS.BUSY` (R21). -/
  busy : Bool
  /-- `STATUS.SCHED_VALID` (R22). -/
  schedValid : Bool
  /-- `STATUS.OVR` (R23). -/
  ovr : Bool
  /-- `STATUS.KEYW` (R25): bit j is KEYW[j]. -/
  keyw : BitVec 4
  /-- `STATUS.ERR` (R26). -/
  err : ErrCode
  /-- `KEY[0..3]` (R29). -/
  key : Vector (Option Word) 4
  /-- `RK[0..31]` (R30). -/
  rk : Vector (Option Word) 32
  /-- `BUF[0 .. 4·NB-1]` (R31). -/
  buf : Vector (Option Word) (4 * Config.nb)
  /-- `PEND` (R32). -/
  pend : Option Op
  /-- `FAULTS` (R39), oldest entry first. -/
  faults : List FaultEvent
  /-- The completion of the pending command has raised `ModelFault(NOVALUE)`, so the CORE has no further step for it
  (R107, I13, P7). -/
  stuck : Bool
  /-- How the last host access was answered; `none` where there was none since reset. -/
  reply : Option Reply
  /-- What the outside will still do, in the total order of 20_memory.md R48. -/
  inbox : List Event
  /-- Which agent makes the next step. -/
  turn : Agent
  /-- Host steps made since the last acceptance (R10). -/
  waited : Nat
  /-- Commands accepted so far: the index of the free latency (R10). -/
  accepted : Nat
  deriving DecidableEq, Repr

/-- The reasons a step stops the machine: none. A bus error and a model fault of the spec are recorded in `faults` and
the machine goes on (60_exceptions.md R106, R107, R110). -/
inductive Fault where
  deriving DecidableEq, Repr

/-- The reasons a step is refused. -/
inductive Refusal where
  /-- An instruction without a meaning yet, by its mnemonic. Raised by no arm of `exec`: every row has its meaning.
  Safe. -/
  | notModelled (mnemonic : String)
  deriving DecidableEq, Repr

/-- The state right after reset (70_reset_and_hazards.md R119; `FAULTS` empty as at power-on). -/
def State.reset : State where
  busy := false
  schedValid := false
  ovr := false
  keyw := 0b0000#4
  err := .ok
  key := Vector.replicate 4 none
  rk := Vector.replicate 32 none
  buf := Vector.replicate (4 * Config.nb) none
  pend := none
  faults := []
  stuck := false
  reply := none
  inbox := []
  turn := .host
  waited := 0
  accepted := 0

end Sys2Proof.Machine
end

