-- ==== Sys2Proof/Machine/Operands.lean ====
section
/-! DEFINITION. The operands of the commands, read from the registers as numbers, or not at all where a word holds ⊥ (00_scope.md R16, 60_exceptions.md R107). -/

namespace Sys2Proof.Machine

/-- The numbers in a row of words, if none of them is ⊥ (R16). -/
def numbers {n : Nat} (v : Vector (Option Word) n) : Option (Vector Word n) :=
  if v.all Option.isSome then some (v.map fun w => w.getD 0) else none

/-- `KEY[0..3]`, the operand of KEYGEN (42_key_schedule.md R84). -/
def State.keyOperand (s : State) : Option (Vector Word 4) := numbers s.key

/-- `RK[0..31]`, the schedule operand of ENCB and DECB (43_round_engine.md R90). -/
def State.scheduleOperand (s : State) : Option (Vector Word 32) := numbers s.rk

/-- `BUF[0 .. 4·NB-1]`, the batch operand of ENCB and DECB (43_round_engine.md R90). -/
def State.batchOperand (s : State) : Option (Vector Word (4 * Config.nb)) := numbers s.buf

/-- `BUF[0..3]`, the operand of SBOX16 (41_substitution.md R83). -/
def State.sboxOperand (s : State) : Option (Vector Word 4) :=
  numbers (Vector.ofFn fun m : Fin 4 => s.buf[m.val])

end Sys2Proof.Machine
end

