-- ==== Sys2Proof/Syntax.lean ====
section
/-! DEFINITION. The command words of the CORE as syntax (30_encoding.md R52 to R58): one constructor for each row of spec/opcode_table.json, with the fields the row leaves variable. -/

namespace Sys2Proof

/-- A command word. `len` is LEN, the declared length in bytes (R54). -/
inductive Instr where
  /-- OP 0x0 (44_host_commands.md R102). -/
  | nop (len : BitVec 16)
  /-- OP 0x1 (42_key_schedule.md R84). -/
  | keygen (len : BitVec 16)
  /-- OP 0x2 (43_round_engine.md R91). -/
  | encb (len : BitVec 16)
  /-- OP 0x3 (43_round_engine.md R92). -/
  | decb (len : BitVec 16)
  /-- OP 0x4 (41_substitution.md R83). -/
  | sbox16 (len : BitVec 16)
  /-- The row "(reserved)": OP 0x5..0xF, or any bit of RSV set (R55, R56). -/
  | reserved (op : BitVec 4) (rsv : BitVec 12) (len : BitVec 16)
  deriving DecidableEq, Repr

end Sys2Proof
end

