-- ==== Sys2Proof/WellFormed.lean ====
section
/-! DEFINITION. Which terms of Instr stand for a command word (30_encoding.md R55, R56, R58). -/

namespace Sys2Proof

/-- A term of the reserved row is well formed when its fields really are reserved: OP in 0x5..0xF, or RSV not 0 (R56).
The five commands leave only LEN variable, and every LEN is a command word of the row (R58: "The LEN check comes after
decoding"). -/
def Instr.wellFormed : Instr → Bool
  | .nop _ => true
  | .keygen _ => true
  | .encb _ => true
  | .decb _ => true
  | .sbox16 _ => true
  | .reserved op rsv _ => decide (5 ≤ op.toNat) || rsv != 0

end Sys2Proof
end

