-- ==== Sys2Proof/Decode.lean ====
section
/-! DEFINITION. The decoder and the encoder of command words (30_encoding.md R52 to R58). The decoder is total (R56): each of the 2^32 words is a row of the table or the reserved row, which is the table's rejection by name. -/

namespace Sys2Proof

/-- Bits 3:0 of a command word (R52). -/
def cmdOp (w : Word) : BitVec 4 := w.extractLsb' 0 4

/-- Bits 15:4 of a command word (R52). -/
def cmdRsv (w : Word) : BitVec 12 := w.extractLsb' 4 12

/-- Bits 31:16 of a command word, LEN (R52, R54). -/
def cmdLen (w : Word) : BitVec 16 := w.extractLsb' 16 16

/-- OP and RSV together, the bits by which a word decodes (R58). -/
def cmdKey (w : Word) : Word := w &&& 0x0000FFFF#32

/-- The command of a word (R58). -/
def decode (w : Word) : Instr :=
  if cmdKey w = 0x00000000#32 then .nop (cmdLen w)
  else if cmdKey w = 0x00000001#32 then .keygen (cmdLen w)
  else if cmdKey w = 0x00000002#32 then .encb (cmdLen w)
  else if cmdKey w = 0x00000003#32 then .decb (cmdLen w)
  else if cmdKey w = 0x00000004#32 then .sbox16 (cmdLen w)
  else .reserved (cmdOp w) (cmdRsv w) (cmdLen w)

/-- A word from its three fields (R52). -/
def cmdWord (op : BitVec 4) (rsv : BitVec 12) (len : BitVec 16) : Word := len ++ rsv ++ op

/-- The OP field of a command (R53). -/
def Instr.opField : Instr → BitVec 4
  | .nop _ => 0x0#4
  | .keygen _ => 0x1#4
  | .encb _ => 0x2#4
  | .decb _ => 0x3#4
  | .sbox16 _ => 0x4#4
  | .reserved op _ _ => op

/-- The RSV field of a command (R55). -/
def Instr.rsvField : Instr → BitVec 12
  | .nop _ => 0
  | .keygen _ => 0
  | .encb _ => 0
  | .decb _ => 0
  | .sbox16 _ => 0
  | .reserved _ rsv _ => rsv

/-- The LEN field of a command (R54). -/
def Instr.lenField : Instr → BitVec 16
  | .nop len => len
  | .keygen len => len
  | .encb len => len
  | .decb len => len
  | .sbox16 len => len
  | .reserved _ _ len => len

/-- The command word of a command (R52, R53). -/
def encode (i : Instr) : Word := cmdWord i.opField i.rsvField i.lenField

/-- What the decoder reads from a row's bits: `nbits` bits of `w`, the bits above them 0 (the whole command is one
32-bit word, R57, so a longer row does not exist). -/
def decodeTableWord (nbits w : Nat) : Option Instr :=
  if nbits ≤ 32 then some (decode (BitVec.ofNat 32 (w % 2 ^ nbits))) else none

end Sys2Proof
end

