-- ==== Sys2Proof/Machine/Flags.lean ====
section
/-! DEFINITION. The status bits: the STATUS word, the KEYW bits, and the outcome code of a command word (10_state.md R20 to R27, 44_host_commands.md R96, R100). The CORE has no arithmetic flags (R37). -/

namespace Sys2Proof.Machine

/-- The 4-bit code in `STATUS.ERR` (60_exceptions.md R105). -/
def ErrCode.code : ErrCode → BitVec 4
  | .ok => 0#4
  | .invalidInput => 1#4
  | .illegalCmd => 2#4
  | .noSchedule => 3#4

/-- A status bit as a word. -/
def bitWord (b : Bool) : Word := if b then 1#32 else 0#32

/-- What a read of `STATUS` returns (44_host_commands.md R96, with the layout of 10_state.md R20). -/
def State.statusWord (s : State) : Word :=
  ((BitVec.ofNat 4 Config.nb).setWidth 32 <<< 16) ||| (s.err.code.setWidth 32 <<< 8) ||| (s.keyw.setWidth 32 <<< 4)
    ||| (bitWord s.ovr <<< 2) ||| (bitWord s.schedValid <<< 1) ||| bitWord s.busy

/-- `KEYW` with bit j set (10_state.md R25). -/
def keywWith (keyw : BitVec 4) (j : Fin 4) : BitVec 4 := keyw ||| (1#4 <<< j.val)

/-- The opcode in `PEND` as the latch's 4 bits (10_state.md R32, 30_encoding.md R53). -/
def Op.code : Op → BitVec 4
  | .nop => 0x0#4
  | .keygen => 0x1#4
  | .encb => 0x2#4
  | .decb => 0x3#4
  | .sbox16 => 0x4#4

/-- The required LEN of each operation (30_encoding.md R54). -/
def requiredLen : Op → BitVec 16
  | .nop => 0#16
  | .keygen => 16#16
  | .encb => BitVec.ofNat 16 (16 * Config.nb)
  | .decb => BitVec.ofNat 16 (16 * Config.nb)
  | .sbox16 => 16#16

/-- The operation a command asks for, none for a reserved word. -/
def commandOp : Instr → Option Op
  | .nop _ => some .nop
  | .keygen _ => some .keygen
  | .encb _ => some .encb
  | .decb _ => some .decb
  | .sbox16 _ => some .sbox16
  | .reserved _ _ _ => none

/-- The accepted form of an operation's command (30_encoding.md R58). -/
def Op.command : Op → Instr
  | .nop => .nop (requiredLen .nop)
  | .keygen => .keygen (requiredLen .keygen)
  | .encb => .encb (requiredLen .encb)
  | .decb => .decb (requiredLen .decb)
  | .sbox16 => .sbox16 (requiredLen .sbox16)

/-- What the state must have for an operation of the right length (44_host_commands.md R100, last two checks). -/
def stateCheck (op : Op) (s : State) : ErrCode :=
  match op with
  | .nop => .ok
  | .keygen => if s.keyw = 0b1111#4 then .ok else .invalidInput
  | .encb => if s.schedValid then .ok else .noSchedule
  | .decb => if s.schedValid then .ok else .noSchedule
  | .sbox16 => .ok

/-- `CHECK`: the first check that fails gives the outcome (44_host_commands.md R100, 60_exceptions.md R109). -/
def check (i : Instr) (s : State) : ErrCode :=
  match commandOp i with
  | none => .illegalCmd
  | some op => if i.lenField = requiredLen op then stateCheck op s else .invalidInput

end Sys2Proof.Machine
end

