-- ==== Sys2Proof/Machine/Ops.lean ====
section
/-! DEFINITION. The named operations on the state: accepting, rejecting, dropping and retiring a command, the stores, raising a bus error or a model fault, and reset (44_host_commands.md R97 to R101, 60_exceptions.md R106 to R111, 70_reset_and_hazards.md R119). The CORE has no trap entry and no trap return (R110, R111): raising an error is `raiseBus`, `raiseNoValueRead` and `raiseNoValueCompletion`, which transfer no control. -/

namespace Sys2Proof.Machine

/-- The access in progress is answered. -/
def State.answer (s : State) (r : Reply) : State := { s with reply := some r }

/-- An event is added to `FAULTS` (10_state.md R39). -/
def State.record (s : State) (e : FaultEvent) : State := { s with faults := s.faults ++ [e] }

/-- `raise BusError(reason)`: the access ends with an error response and nothing in the CORE changes (R106). -/
def State.raiseBus (s : State) (reason : BusReason) (a : HostAccess) : State :=
  (s.record (.busError reason a)).answer .error

/-- `raise ModelFault(NOVALUE)` for a host read of a ⊥ word (R107). -/
def State.raiseNoValueRead (s : State) (a : HostAccess) : State :=
  (s.record (.noValueRead a)).answer .noValue

/-- `raise ModelFault(NOVALUE)` for a completion that needs a ⊥ word: recorded, nothing
written, and the CORE has no further step for the command (R107, R109, I13). -/
def State.raiseNoValueCompletion (s : State) (op : Op) : State :=
  { s.record (.noValueCompletion op) with stuck := true }

/-- A CMD write while BUSY: the command is ignored (44_host_commands.md R99). -/
def State.overrun (s : State) : State := { s with ovr := true }

/-- A rejected command: only ERR and OVR change (R99, R110). -/
def State.reject (s : State) (e : ErrCode) : State := { s with err := e, ovr := false }

/-- An accepted command becomes the pending one (R99). -/
def State.accept (s : State) (op : Op) : State :=
  { s with
    err := .ok
    ovr := false
    pend := some op
    busy := true
    waited := 0
    accepted := s.accepted + 1 }

/-- The end of a completion: `PEND <- ⊥; BUSY <- 0` (R101). -/
def State.retire (s : State) : State := { s with pend := none, busy := false }

/-- `KEY[j] <- v; KEYW[j] <- 1` (R97). -/
def State.storeKey (s : State) (j : Fin 4) (v : Word) : State :=
  { s with key := s.key.set j (some v), keyw := keywWith s.keyw j }

/-- `BUF[w] <- v` (R97). -/
def State.storeBuf (s : State) (w : Fin (4 * Config.nb)) (v : Word) : State :=
  { s with buf := s.buf.set w (some v) }

/-- What the completion of KEYGEN writes: the schedule, SCHED_VALID, and the key consumed (42_key_schedule.md R84). -/
def State.installSchedule (s : State) (rk : Vector Word 32) : State :=
  { s with
    rk := rk.map some
    schedValid := true
    key := Vector.replicate 4 none
    keyw := 0b0000#4 }

/-- The whole batch is replaced (43_round_engine.md R90). -/
def State.installBatch (s : State) (b : Vector Word (4 * Config.nb)) : State := { s with buf := b.map some }

/-- `BUF[0..3]` are replaced (41_substitution.md R83). -/
def State.installFirst (s : State) (v : Vector Word 4) : State :=
  { s with buf := Vector.ofFn fun w => if h : w.val < 4 then some v[w.val] else s.buf[w] }

/-- The reset event (70_reset_and_hazards.md R119). `FAULTS` is not cleared; what the outside will still do, and the
index of the free latency, are not the CORE's to clear (log entries 2 and 3). -/
def State.applyReset (s : State) : State :=
  { State.reset with faults := s.faults, inbox := s.inbox, accepted := s.accepted }

/-- The host's next event is taken from the inbox. -/
def State.pop (s : State) (rest : List Event) : State :=
  { s with inbox := rest, turn := .host, waited := s.waited + 1 }

/-- Which agent moves next: the CORE when a command is pending and not stuck and either the free number of host steps has
passed or no host step is left (00_scope.md R10, 44_host_commands.md R101, I13; log entries 3 and 5). -/
def State.nextTurn (s : State) : Agent :=
  if s.busy && !s.stuck && (s.inbox.isEmpty || decide (Config.latency s.accepted ≤ s.waited)) then .core else .host

/-- The end of a step: the next agent is chosen. -/
def State.arbitrate (s : State) : State := { s with turn := s.nextTurn }

/-- The CORE's step is the completion of `op` (R101), which no model fault has ended before (I13). -/
def State.completing (s : State) (op : Op) : Bool :=
  decide (s.turn = .core) && s.busy && decide (s.pend = some op) && !s.stuck

/-- `CMD_WRITE` of a decoded command word (R99): the access itself succeeds whatever becomes of the command. -/
def cmdWrite (i : Instr) (s : State) : State :=
  let t :=
    if s.busy then s.overrun
    else
      match commandOp i, check i s with
      | some op, .ok => s.accept op
      | _, e => s.reject e
  t.answer .ack

/-- `COMPLETE` for a command with the given effect, which is none where an operand word holds ⊥ (R101, R107). -/
def complete (op : Op) (effect : State → Option State) (s : State) : State :=
  match effect s with
  | some t => t.retire
  | none => s.raiseNoValueCompletion op

/-- The two points of a command's life in the total order: its completion when it is the CORE's turn and the command is
pending, and else its presentation at CMD (R99, R101). -/
def runCommand (i : Instr) (op : Op) (effect : State → Option State) (s : State) : Host.Outcome State Fault Refusal :=
  .next (if s.completing op then complete op effect s else cmdWrite i s)

end Sys2Proof.Machine
end

