-- ==== Sys2Proof/Machine/Bits.lean ====
section
/-! DEFINITION. Bit fields, rotations and byte order (00_scope.md R12 to R14). -/

namespace Sys2Proof.Machine

/-- `BE32(b0, b1, b2, b3)`: b0 is bits [31:24] (R13). -/
def be32 (b0 b1 b2 b3 : Byte) : Word := b0 ++ b1 ++ b2 ++ b3

/-- `byte_n(w) = w[31-8n : 24-8n]` for n = 0..3 (R13). -/
def byteN (n : Nat) (w : Word) : Byte := w.extractLsb' (24 - 8 * n) 8

/-- `rotl(x, n)` on a word, for 0 < n < 32 (R14). -/
def rotl (x : Word) (n : Nat) : Word := (x <<< n) ||| (x >>> (32 - n))

/-- `rotl8(x, n)` on a byte, for 0 < n < 8 (R14). -/
def rotl8 (x : Byte) (n : Nat) : Byte := (x <<< n) ||| (x >>> (8 - n))

end Sys2Proof.Machine
end

