-- ==== Sys2Proof/Machine/Tables.lean ====
section
/-! DEFINITION. The constant tables and the functions built on them (40_tables.md R61 to R75). -/

namespace Sys2Proof.Machine

/-- The entry of a table printed as 16 rows of 16: row x[7:4], column x[3:0]. -/
def tableLookup (rows : List (List Byte)) (x : Byte) : Byte :=
  (rows.getD (x.toNat / 16) []).getD (x.toNat % 16) 0

/-- The rows of the target cipher's substitution box (R61). -/
def sboxRows : List (List Byte) := [
    [0xD6, 0x90, 0xE9, 0xFE, 0xCC, 0xE1, 0x3D, 0xB7, 0x16, 0xB6, 0x14, 0xC2, 0x28, 0xFB, 0x2C, 0x05],
    [0x2B, 0x67, 0x9A, 0x76, 0x2A, 0xBE, 0x04, 0xC3, 0xAA, 0x44, 0x13, 0x26, 0x49, 0x86, 0x06, 0x99],
    [0x9C, 0x42, 0x50, 0xF4, 0x91, 0xEF, 0x98, 0x7A, 0x33, 0x54, 0x0B, 0x43, 0xED, 0xCF, 0xAC, 0x62],
    [0xE4, 0xB3, 0x1C, 0xA9, 0xC9, 0x08, 0xE8, 0x95, 0x80, 0xDF, 0x94, 0xFA, 0x75, 0x8F, 0x3F, 0xA6],
    [0x47, 0x07, 0xA7, 0xFC, 0xF3, 0x73, 0x17, 0xBA, 0x83, 0x59, 0x3C, 0x19, 0xE6, 0x85, 0x4F, 0xA8],
    [0x68, 0x6B, 0x81, 0xB2, 0x71, 0x64, 0xDA, 0x8B, 0xF8, 0xEB, 0x0F, 0x4B, 0x70, 0x56, 0x9D, 0x35],
    [0x1E, 0x24, 0x0E, 0x5E, 0x63, 0x58, 0xD1, 0xA2, 0x25, 0x22, 0x7C, 0x3B, 0x01, 0x21, 0x78, 0x87],
    [0xD4, 0x00, 0x46, 0x57, 0x9F, 0xD3, 0x27, 0x52, 0x4C, 0x36, 0x02, 0xE7, 0xA0, 0xC4, 0xC8, 0x9E],
    [0xEA, 0xBF, 0x8A, 0xD2, 0x40, 0xC7, 0x38, 0xB5, 0xA3, 0xF7, 0xF2, 0xCE, 0xF9, 0x61, 0x15, 0xA1],
    [0xE0, 0xAE, 0x5D, 0xA4, 0x9B, 0x34, 0x1A, 0x55, 0xAD, 0x93, 0x32, 0x30, 0xF5, 0x8C, 0xB1, 0xE3],
    [0x1D, 0xF6, 0xE2, 0x2E, 0x82, 0x66, 0xCA, 0x60, 0xC0, 0x29, 0x23, 0xAB, 0x0D, 0x53, 0x4E, 0x6F],
    [0xD5, 0xDB, 0x37, 0x45, 0xDE, 0xFD, 0x8E, 0x2F, 0x03, 0xFF, 0x6A, 0x72, 0x6D, 0x6C, 0x5B, 0x51],
    [0x8D, 0x1B, 0xAF, 0x92, 0xBB, 0xDD, 0xBC, 0x7F, 0x11, 0xD9, 0x5C, 0x41, 0x1F, 0x10, 0x5A, 0xD8],
    [0x0A, 0xC1, 0x31, 0x88, 0xA5, 0xCD, 0x7B, 0xBD, 0x2D, 0x74, 0xD0, 0x12, 0xB8, 0xE5, 0xB4, 0xB0],
    [0x89, 0x69, 0x97, 0x4A, 0x0C, 0x96, 0x77, 0x7E, 0x65, 0xB9, 0xF1, 0x09, 0xC5, 0x6E, 0xC6, 0x84],
    [0x18, 0xF0, 0x7D, 0xEC, 0x3A, 0xDC, 0x4D, 0x20, 0x79, 0xEE, 0x5F, 0x3E, 0xD7, 0xCB, 0x39, 0x48]
  ]

/-- `SBOX[x]` (R61). -/
def sbox (x : Byte) : Byte := tableLookup sboxRows x

/-- `FK[0..3]` (R63). -/
def fk : Vector Word 4 := #v[0xA3B1BAC6, 0x56AA3350, 0x677D9197, 0xB27022DC]

/-- `ck(m) = (7·m) mod 256` (R64). -/
def ckByte (m : Nat) : Byte := BitVec.ofNat 8 (7 * m)

/-- `CK[i] = BE32(ck(4i), ck(4i+1), ck(4i+2), ck(4i+3))` (R64). -/
def ck (i : Nat) : Word :=
  be32 (ckByte (4 * i)) (ckByte (4 * i + 1)) (ckByte (4 * i + 2)) (ckByte (4 * i + 3))

/-- `tau(w)`: SBOX on each byte of a word (R65). -/
def tau (w : Word) : Word :=
  be32 (sbox (byteN 0 w)) (sbox (byteN 1 w)) (sbox (byteN 2 w)) (sbox (byteN 3 w))

/-- `L(B)`, the round function's diffusion step (R66). -/
def diffL (b : Word) : Word := b ^^^ rotl b 2 ^^^ rotl b 10 ^^^ rotl b 18 ^^^ rotl b 24

/-- `Lp(t)`, the key schedule's diffusion step (R67). -/
def diffLp (t : Word) : Word := t ^^^ rotl t 13 ^^^ rotl t 23

/-- The rows of the foreign cipher's substitution table (R69). -/
def aesSboxRows : List (List Byte) := [
    [0x63, 0x7C, 0x77, 0x7B, 0xF2, 0x6B, 0x6F, 0xC5, 0x30, 0x01, 0x67, 0x2B, 0xFE, 0xD7, 0xAB, 0x76],
    [0xCA, 0x82, 0xC9, 0x7D, 0xFA, 0x59, 0x47, 0xF0, 0xAD, 0xD4, 0xA2, 0xAF, 0x9C, 0xA4, 0x72, 0xC0],
    [0xB7, 0xFD, 0x93, 0x26, 0x36, 0x3F, 0xF7, 0xCC, 0x34, 0xA5, 0xE5, 0xF1, 0x71, 0xD8, 0x31, 0x15],
    [0x04, 0xC7, 0x23, 0xC3, 0x18, 0x96, 0x05, 0x9A, 0x07, 0x12, 0x80, 0xE2, 0xEB, 0x27, 0xB2, 0x75],
    [0x09, 0x83, 0x2C, 0x1A, 0x1B, 0x6E, 0x5A, 0xA0, 0x52, 0x3B, 0xD6, 0xB3, 0x29, 0xE3, 0x2F, 0x84],
    [0x53, 0xD1, 0x00, 0xED, 0x20, 0xFC, 0xB1, 0x5B, 0x6A, 0xCB, 0xBE, 0x39, 0x4A, 0x4C, 0x58, 0xCF],
    [0xD0, 0xEF, 0xAA, 0xFB, 0x43, 0x4D, 0x33, 0x85, 0x45, 0xF9, 0x02, 0x7F, 0x50, 0x3C, 0x9F, 0xA8],
    [0x51, 0xA3, 0x40, 0x8F, 0x92, 0x9D, 0x38, 0xF5, 0xBC, 0xB6, 0xDA, 0x21, 0x10, 0xFF, 0xF3, 0xD2],
    [0xCD, 0x0C, 0x13, 0xEC, 0x5F, 0x97, 0x44, 0x17, 0xC4, 0xA7, 0x7E, 0x3D, 0x64, 0x5D, 0x19, 0x73],
    [0x60, 0x81, 0x4F, 0xDC, 0x22, 0x2A, 0x90, 0x88, 0x46, 0xEE, 0xB8, 0x14, 0xDE, 0x5E, 0x0B, 0xDB],
    [0xE0, 0x32, 0x3A, 0x0A, 0x49, 0x06, 0x24, 0x5C, 0xC2, 0xD3, 0xAC, 0x62, 0x91, 0x95, 0xE4, 0x79],
    [0xE7, 0xC8, 0x37, 0x6D, 0x8D, 0xD5, 0x4E, 0xA9, 0x6C, 0x56, 0xF4, 0xEA, 0x65, 0x7A, 0xAE, 0x08],
    [0xBA, 0x78, 0x25, 0x2E, 0x1C, 0xA6, 0xB4, 0xC6, 0xE8, 0xDD, 0x74, 0x1F, 0x4B, 0xBD, 0x8B, 0x8A],
    [0x70, 0x3E, 0xB5, 0x66, 0x48, 0x03, 0xF6, 0x0E, 0x61, 0x35, 0x57, 0xB9, 0x86, 0xC1, 0x1D, 0x9E],
    [0xE1, 0xF8, 0x98, 0x11, 0x69, 0xD9, 0x8E, 0x94, 0x9B, 0x1E, 0x87, 0xE9, 0xCE, 0x55, 0x28, 0xDF],
    [0x8C, 0xA1, 0x89, 0x0D, 0xBF, 0xE6, 0x42, 0x68, 0x41, 0x99, 0x2D, 0x0F, 0xB0, 0x54, 0xBB, 0x16]
  ]

/-- `AES_SBOX[x]` (R69). -/
def aesSbox (x : Byte) : Byte := tableLookup aesSboxRows x

/-- ShiftRows: output byte i is input byte `SR[i]` (R70). -/
def sr : Vector (Fin 16) 16 := #v[0, 5, 10, 15, 4, 9, 14, 3, 8, 13, 2, 7, 12, 1, 6, 11]

/-- The inverse of ShiftRows (R70). -/
def isr : Vector (Fin 16) 16 := #v[0, 13, 10, 7, 4, 1, 14, 11, 8, 5, 2, 15, 12, 9, 6, 3]

/-- `LinNib(LO, HI, x) = LO[x & 0xF] ^ HI[x >> 4]` (R71). -/
def linNib (lo hi : List Byte) (x : Byte) : Byte :=
  lo.getD (x.toNat % 16) 0 ^^^ hi.getD (x.toNat / 16) 0

/-- `TA_LO` (R72). -/
def taLo : List Byte := [0x00, 0xCA, 0x77, 0xBD, 0x8B, 0x41, 0xFC, 0x36, 0xD4, 0x1E, 0xA3, 0x69, 0x5F, 0x95, 0x28, 0xE2]

/-- `TA_HI` (R72). -/
def taHi : List Byte := [0x00, 0x7A, 0x38, 0x42, 0x20, 0x5A, 0x18, 0x62, 0x40, 0x3A, 0x78, 0x02, 0x60, 0x1A, 0x58, 0x22]

/-- `C1` (R72). -/
def c1 : Byte := 0x23

/-- The pre-affine map `TA` (R72). -/
def ta (x : Byte) : Byte := linNib taLo taHi x

/-- `ATA_LO` (R73). -/
def ataLo : List Byte := [0x00, 0x60, 0x22, 0x42, 0x1D, 0x7D, 0x3F, 0x5F, 0x87, 0xE7, 0xA5, 0xC5, 0x9A, 0xFA, 0xB8, 0xD8]

/-- `ATA_HI` (R73). -/
def ataHi : List Byte := [0x00, 0x13, 0xD2, 0xC1, 0x78, 0x6B, 0xAA, 0xB9, 0xAD, 0xBE, 0x7F, 0x6C, 0xD5, 0xC6, 0x07, 0x14]

/-- `C2` (R73). -/
def c2 : Byte := 0x3B

/-- The post-affine map `ATA` (R73). -/
def ata (y : Byte) : Byte := linNib ataLo ataHi y

end Sys2Proof.Machine
end

