-- ==== Sys2Proof/Machine/Substitution.lean ====
section
/-! DEFINITION. The Substitution Engine and its two backends (41_substitution.md R76 to R82). -/

namespace Sys2Proof.Machine

/-- The engine register `E` (R76). -/
abbrev EngineReg := Vector Byte 16

/-- Four words into the engine register: `E[4m + n] = byte_n(W_m)` (R77). -/
def loadEngine (w : Vector Word 4) : EngineReg :=
  Vector.ofFn fun i => byteN (i.val % 4) w[i.val / 4]

/-- The engine register back into four words (R77). -/
def unloadEngine (e : EngineReg) : Vector Word 4 :=
  Vector.ofFn fun m => be32 e[4 * m.val] e[4 * m.val + 1] e[4 * m.val + 2] e[4 * m.val + 3]

/-- Backend TABLE: a direct lookup in every lane (R76, R79). -/
def seTable (e : EngineReg) : EngineReg := e.map sbox

/-- The foreign primitive: ShiftRows, then the foreign table, then the key (R80). -/
def aesEncLast (s k : EngineReg) : EngineReg :=
  Vector.ofFn fun i => aesSbox s[sr[i]] ^^^ k[i]

/-- Backend AES_CONJ in its four steps (R81). Step (1) is the inverse ShiftRows across the whole register
(90_conflicts.md C1). -/
def seAes (e : EngineReg) : EngineReg :=
  let p : EngineReg := Vector.ofFn fun i => e[isr[i]]
  let q := p.map fun b => ta b ^^^ c1
  let r := aesEncLast q (Vector.replicate 16 0)
  r.map fun b => ata b ^^^ c2

/-- One pass of the Substitution Engine with the chosen backend (00_scope.md R7). -/
def engine : Config.SubBackend → EngineReg → EngineReg
  | .aesConj, e => seAes e
  | .table, e => seTable e

/-- One engine pass over four words (R77). -/
def engineWords (bk : Config.SubBackend) (w : Vector Word 4) : Vector Word 4 :=
  unloadEngine (engine bk (loadEngine w))

/-- The g-th group of four consecutive words of V, don't-care lanes where V has no word (R78). -/
def engineGroup {n : Nat} (v : Vector Word n) (g : Nat) : Vector Word 4 :=
  Vector.ofFn fun m => (v[4 * g + m.val]?).getD (Config.dontCareLane (4 * g + m.val))

/-- `SE_W(V)`: the engine on a vector of words, one pass a group (R78). -/
def engineVec {n : Nat} (bk : Config.SubBackend) (v : Vector Word n) : Vector Word n :=
  Vector.ofFn fun b => (engineWords bk (engineGroup v (b.val / 4)))[b.val % 4]

end Sys2Proof.Machine
end

