-- ==== Sys2Proof/Machine/RoundEngine.lean ====
section
/-! DEFINITION. The Parallel Round Engine over a batch of nb blocks (43_round_engine.md R87 to R90; 10_state.md R34), and the per-block function of R93. -/

namespace Sys2Proof.Machine

/-- The direction of a batch transform (R90). -/
inductive Dir where
  | enc
  | dec
  deriving DecidableEq, Repr

/-- The CipherState: four lane registers of nb words, which exist only during a completion (R34). -/
structure CipherState (nb : Nat) where
  x0 : Vector Word nb
  x1 : Vector Word nb
  x2 : Vector Word nb
  x3 : Vector Word nb
  deriving DecidableEq, Repr

/-- Word j of every block: `Xj[b] <- BUF[4b + j]` (R87). -/
def lane {nb : Nat} (buf : Vector Word (4 * nb)) (j : Fin 4) : Vector Word nb :=
  Vector.ofFn fun b => buf[4 * b.val + j.val]

/-- `TRANSPOSE_IN` (R87). -/
def transposeIn {nb : Nat} (buf : Vector Word (4 * nb)) : CipherState nb :=
  ⟨lane buf 0, lane buf 1, lane buf 2, lane buf 3⟩

/-- The mixing step: the round key is broadcast to all lanes (R88). -/
def roundMix {nb : Nat} (x : CipherState nb) (rk : Word) : Vector Word nb :=
  Vector.ofFn fun b => x.x1[b] ^^^ x.x2[b] ^^^ x.x3[b] ^^^ rk

/-- The new lane: `NEW[b] <- X0[b] ^ L(Bv[b])` with `Bv = SE_W(MIX)` (R88). -/
def roundNew {nb : Nat} (bk : Config.SubBackend) (x : CipherState nb) (rk : Word) : Vector Word nb :=
  let bv := engineVec bk (roundMix x rk)
  Vector.ofFn fun b => x.x0[b] ^^^ diffL bv[b]

/-- `ROUND` with round key `rk` (R88). -/
def engineRound {nb : Nat} (bk : Config.SubBackend) (x : CipherState nb) (rk : Word) : CipherState nb :=
  ⟨x.x1, x.x2, x.x3, roundNew bk x rk⟩

/-- The index of the round key of round rc: rc to encrypt, 31 - rc to decrypt (R90; σ(r) of R93). -/
def keyIndex : Dir → Fin 32 → Fin 32
  | .enc, rc => rc
  | .dec, rc => rc.rev

/-- The round key of round rc, a counter 0..31 (R35, R90). -/
def roundKey (dir : Dir) (rk : Vector Word 32) (rc : Nat) : Word := rk[keyIndex dir (Fin.ofNat 32 rc)]

/-- The CipherState before round `n` of a transform whose round r uses the key word `key r` (R88, R90). -/
def cipherAt {nb : Nat} (bk : Config.SubBackend) (key : Nat → Word) (buf : Vector Word (4 * nb)) : Nat → CipherState nb
  | 0 => transposeIn buf
  | n + 1 => engineRound bk (cipherAt bk key buf n) (key n)

/-- `TRANSPOSE_OUT`: `BUF[4b + j] <- X(3-j)[b]` (R89). -/
def transposeOut {nb : Nat} (x : CipherState nb) : Vector Word (4 * nb) :=
  Vector.ofFn fun w =>
    have h : w.val / 4 < nb := by omega
    match w.val % 4 with
    | 0 => x.x3[w.val / 4]
    | 1 => x.x2[w.val / 4]
    | 2 => x.x1[w.val / 4]
    | _ => x.x0[w.val / 4]

/-- `CRYPT(dir)` on a batch that holds numbers: transpose in, 32 rounds, transpose out (R90). -/
def cryptBatch {nb : Nat} (bk : Config.SubBackend) (dir : Dir) (rk : Vector Word 32) (buf : Vector Word (4 * nb)) :
    Vector Word (4 * nb) :=
  transposeOut (cipherAt bk (roundKey dir rk) buf 32)

/-- `F(x0, x1, x2, x3, rk)` of R93. -/
def feistelF (x0 x1 x2 x3 rk : Word) : Word := x0 ^^^ diffL (tau (x1 ^^^ x2 ^^^ x3 ^^^ rk))

/-- The words x_0, x_1, ... of one block: the block's four words, then F of the last four and the round key (R93). -/
def blockWordAt (p0 p1 p2 p3 : Word) (key : Nat → Word) : Nat → Word
  | 0 => p0
  | 1 => p1
  | 2 => p2
  | 3 => p3
  | r + 4 => feistelF (blockWordAt p0 p1 p2 p3 key r) (blockWordAt p0 p1 p2 p3 key (r + 1))
      (blockWordAt p0 p1 p2 p3 key (r + 2)) (blockWordAt p0 p1 p2 p3 key (r + 3)) (key r)

end Sys2Proof.Machine
end

