-- ==== Sys2Proof/Machine/Batch.lean ====
section
/-! DEFINITION. The meanings of the commands on the batch buffer: ENCB, DECB and SBOX16 (43_round_engine.md R90 to R92, 41_substitution.md R83). -/

namespace Sys2Proof.Machine

/-- `CRYPT(dir)` (R90): BUF, then RK, must hold numbers. -/
def cryptEffect (dir : Dir) (s : State) : Option State :=
  match s.batchOperand, s.scheduleOperand with
  | some b, some rk => some (s.installBatch (cryptBatch Config.subBackend dir rk b))
  | _, _ => none

/-- The completion pseudocode of SBOX16: one engine pass over `BUF[0..3]` (R83). -/
def sboxEffect (s : State) : Option State :=
  s.sboxOperand.map fun w => s.installFirst (engineWords Config.subBackend w)

/-- `ENCB` (R91). -/
def execEncb (len : BitVec 16) (s : State) : Host.Outcome State Fault Refusal :=
  runCommand (.encb len) .encb (cryptEffect .enc) s

/-- `DECB` (R92). -/
def execDecb (len : BitVec 16) (s : State) : Host.Outcome State Fault Refusal :=
  runCommand (.decb len) .decb (cryptEffect .dec) s

/-- `SBOX16` (R83). -/
def execSbox16 (len : BitVec 16) (s : State) : Host.Outcome State Fault Refusal :=
  runCommand (.sbox16 len) .sbox16 sboxEffect s

end Sys2Proof.Machine
end

