-- ==== Sys2Proof/Machine/Control.lean ====
section
/-! DEFINITION. The meanings of NOP and of the reserved words (44_host_commands.md R102, 30_encoding.md R55, R56). -/

namespace Sys2Proof.Machine

/-- `NOP`: acceptance clears ERR and OVR, the completion does nothing but end (R102). -/
def execNop (len : BitVec 16) (s : State) : Host.Outcome State Fault Refusal :=
  runCommand (.nop len) .nop some s

/-- A reserved word: rejected with ILLEGAL_CMD, and no other effect (R55, R56, R100). It is never pending. -/
def execReserved (op : BitVec 4) (rsv : BitVec 12) (len : BitVec 16) (s : State) :
    Host.Outcome State Fault Refusal :=
  .next (cmdWrite (.reserved op rsv len) s)

end Sys2Proof.Machine
end

