-- ==== Sys2Proof/Machine/KeySchedule.lean ====
section
/-! DEFINITION. The Key Schedule Generator (42_key_schedule.md R84 to R86; 10_state.md R33). -/

namespace Sys2Proof.Machine

/-- The generator's four words, which exist only during a completion (R33). -/
structure KsgRegs where
  k0 : Word
  k1 : Word
  k2 : Word
  k3 : Word
  deriving DecidableEq, Repr

/-- The start: master-key word j exclusive-or FK[j] (R84). -/
def ksgInit (mk : Vector Word 4) : KsgRegs :=
  ⟨mk[0] ^^^ fk[0], mk[1] ^^^ fk[1], mk[2] ^^^ fk[2], mk[3] ^^^ fk[3]⟩

/-- One round: the new round key is shifted in as k3 (R84). -/
def ksgRound (k : KsgRegs) (rc : Nat) : KsgRegs :=
  ⟨k.k1, k.k2, k.k3, k.k0 ^^^ diffLp (tau (k.k1 ^^^ k.k2 ^^^ k.k3 ^^^ ck rc))⟩

/-- The generator's words before round `n`. -/
def ksgAt (mk : Vector Word 4) : Nat → KsgRegs
  | 0 => ksgInit mk
  | n + 1 => ksgRound (ksgAt mk n) n

/-- The schedule: RK[rc] is the word that round rc shifts in (R84). -/
def schedule (mk : Vector Word 4) : Vector Word 32 :=
  Vector.ofFn fun rc => (ksgAt mk (rc.val + 1)).k3

end Sys2Proof.Machine
end

