-- ==== Sys2Proof/Machine/Keygen.lean ====
section
/-! DEFINITION. The meaning of KEYGEN (42_key_schedule.md R84). -/

namespace Sys2Proof.Machine

/-- The completion pseudocode of KEYGEN (R84). -/
def keygenEffect (s : State) : Option State :=
  s.keyOperand.map fun mk => s.installSchedule (schedule mk)

/-- `KEYGEN` (R84). -/
def execKeygen (len : BitVec 16) (s : State) : Host.Outcome State Fault Refusal :=
  runCommand (.keygen len) .keygen keygenEffect s

end Sys2Proof.Machine
end

