-- ==== Sys2Proof/Machine/Dispatch.lean ====
section
/-! DEFINITION. Which meaning each row of the opcode table has. -/

namespace Sys2Proof.Machine

def exec (i : Instr) (s : State) : Host.Outcome State Fault Refusal :=
  match i with
  | .nop len => Sys2Proof.Machine.execNop len s
  | .keygen len => Sys2Proof.Machine.execKeygen len s
  | .encb len => Sys2Proof.Machine.execEncb len s
  | .decb len => Sys2Proof.Machine.execDecb len s
  | .sbox16 len => Sys2Proof.Machine.execSbox16 len s
  | .reserved op rsv len => Sys2Proof.Machine.execReserved op rsv len s

end Sys2Proof.Machine
end

