-- ==== Sys2Proof/Machine/Window.lean ====
section
/-! DEFINITION. The register window: its map, its placement at CORE_BASE, and the address checks of a host access (20_memory.md R40 to R44, 00_scope.md R8). -/

namespace Sys2Proof.Machine

/-- The registers of the window (R41). -/
inductive WindowReg where
  | cmd
  | status
  | key (j : Fin 4)
  | rk (i : Fin 32)
  | buf (w : Fin (4 * Config.nb))
  deriving DecidableEq, Repr

/-- The k-th word from byte offset `base` on, if `off` is the offset of one of `n` words there. -/
def wordIndex (base n off : Nat) : Option (Fin n) :=
  if h : base ≤ off ∧ (off - base) / 4 < n then some ⟨(off - base) / 4, h.2⟩ else none

/-- The window map at an offset that is a multiple of 4; none where it is reserved (R41, R42). -/
def regAt (off : Nat) : Option WindowReg :=
  if off = 0x000 then some .cmd
  else if off = 0x004 then some .status
  else
    match wordIndex 0x010 4 off, wordIndex 0x100 32 off, wordIndex 0x200 (4 * Config.nb) off with
    | some j, _, _ => some (.key j)
    | none, some i, _ => some (.rk i)
    | none, none, some w => some (.buf w)
    | none, none, none => none

/-- The offset of a register (R41). -/
def offsetOf : WindowReg → Nat
  | .cmd => 0x000
  | .status => 0x004
  | .key j => 0x010 + 4 * j.val
  | .rk i => 0x100 + 4 * i.val
  | .buf w => 0x200 + 4 * w.val

/-- The checks of size, alignment and mapping, in this order (R44). -/
def locate (size : Nat) (off : Offset) : Except BusReason WindowReg :=
  if size ≠ 4 then .error .size
  else if off.toNat % 4 ≠ 0 then .error .align
  else
    match regAt off.toNat with
    | some r => .ok r
    | none => .error .unmapped

/-- The window offset of a platform address: none where the address is outside the 4096 bytes at CORE_BASE (R8, R40),
an access that does not reach the CORE. -/
def windowOffset (addr : Nat) : Option Offset :=
  if Config.coreBase ≤ addr ∧ addr < Config.coreBase + 4096 then some (BitVec.ofNat 12 (addr - Config.coreBase)) else none

/-- The platform address of a window offset (00_scope.md R15). -/
def platformAddr (off : Offset) : Nat := Config.coreBase + off.toNat

/-- `MemRead(addr, size)` as an access of the window (00_scope.md R15). -/
def memRead (addr size : Nat) : Option HostAccess := (windowOffset addr).map fun off => .read size off

/-- `MemWrite(addr, size, v)` as an access of the window (00_scope.md R15). -/
def memWrite (addr size : Nat) (v : Word) : Option HostAccess := (windowOffset addr).map fun off => .write size off v

end Sys2Proof.Machine
end

