-- ==== Sys2Proof/Machine/HostPort.lean ====
section
/-! DEFINITION. What the host's reads and writes do (44_host_commands.md R96 to R98), and what the next step has to do. -/

namespace Sys2Proof.Machine

/-- What one step has to do. -/
inductive Work where
  /-- The CORE completes its pending command (R101). -/
  | complete (op : Op)
  /-- The host writes the word `v` to CMD in the state `t` (R99). -/
  | command (v : Word) (t : State)
  /-- The step's own effect is done: the state is `t`. -/
  | settled (t : State)
  deriving DecidableEq, Repr

/-- `HostRead` of a located register (R96). -/
def readReg (r : WindowReg) (a : HostAccess) (s : State) : State :=
  match r with
  | .cmd => s.answer (.data 0)
  | .status => s.answer (.data s.statusWord)
  | .key _ => if s.busy then s.raiseBus .busy a else s.answer (.data 0)
  | .rk i =>
    if s.busy then s.raiseBus .busy a
    else
      match s.rk[i] with
      | some v => s.answer (.data v)
      | none => s.raiseNoValueRead a
  | .buf w =>
    if s.busy then s.raiseBus .busy a
    else
      match s.buf[w] with
      | some v => s.answer (.data v)
      | none => s.raiseNoValueRead a

/-- `HostRead(off)` with the address checks before it (R96). -/
def hostRead (size : Nat) (off : Offset) (s : State) : State :=
  match locate size off with
  | .ok r => readReg r (.read size off) s
  | .error reason => s.raiseBus reason (.read size off)

/-- `HostWrite` to a located register (R97): a write of CMD is left to the command's meaning. -/
def writeReg (r : WindowReg) (v : Word) (a : HostAccess) (s : State) : Work :=
  match r with
  | .cmd => .command v s
  | .status => .settled (s.raiseBus .ro a)
  | .rk _ => .settled (s.raiseBus .ro a)
  | .key j => .settled (if s.busy then s.raiseBus .busy a else (s.storeKey j v).answer .ack)
  | .buf w => .settled (if s.busy then s.raiseBus .busy a else (s.storeBuf w v).answer .ack)

/-- `HostWrite(off, v)` with the address checks before it (R97). -/
def hostWrite (size : Nat) (off : Offset) (v : Word) (s : State) : Work :=
  match locate size off with
  | .ok r => writeReg r v (.write size off v) s
  | .error reason => .settled (s.raiseBus reason (.write size off v))

/-- The next event from outside; with none left nothing happens and all state is kept (60_exceptions.md R118). -/
def hostWork (s : State) : Work :=
  match s.inbox with
  | [] => .settled s
  | .reset :: rest => .settled (s.pop rest).applyReset
  | .access (.read size off) :: rest => .settled (hostRead size off (s.pop rest))
  | .access (.write size off v) :: rest => hostWrite size off v (s.pop rest)

/-- The CORE's turn is its completion, enabled exactly when BUSY = 1 (R101) and no model fault has ended it before (I13);
every other step is the host's. -/
def nextWork (s : State) : Work :=
  match s.turn, s.busy, s.pend, s.stuck with
  | .core, true, some op, false => .complete op
  | _, _, _, _ => hostWork s

/-- The end of a step that ran a command: the next agent is chosen in the state it leaves. -/
def settle : Host.Outcome State Fault Refusal → Host.Outcome State Fault Refusal
  | .next s => .next s.arbitrate
  | .fault r => .fault r
  | .refused r => .refused r

/-- The state in which the host's next event is the write of the word `v` to CMD. -/
def State.presentWord (s : State) (v : Word) : State :=
  { s with turn := .host, inbox := .access (.write 4 0x000#12 v) :: s.inbox }

end Sys2Proof.Machine
end

