-- ==== Sys2Proof/Machine/Step.lean ====
section
/-! DEFINITION. One step: the CORE's completion of the pending command, or the next event from outside (00_scope.md R11, 44_host_commands.md R96 to R101). -/

namespace Sys2Proof.Machine

/-- One point of the total order of 20_memory.md R48. -/
def step (s : State) : Host.Outcome State Fault Refusal :=
  match nextWork s with
  | .complete op => settle (exec op.command s)
  | .command v t => settle (exec (decode v) t)
  | .settled t => .next t.arbitrate

/-- `s` with a command word as the host's next access, a write of CMD: the lowest `nbits` bits of `w`, the bits above
them 0 (log entry 4). -/
def State.withFetchWord (s : State) (nbits w : Nat) : State := s.presentWord (BitVec.ofNat 32 (w % 2 ^ nbits))

end Sys2Proof.Machine
end

