-- ==== Sys2Proof/Machine/Field.lean ====
section
/-! DEFINITION. The two fields GF(2^8) behind the substitution boxes and the isomorphism between them (40_tables.md R62, R68, R74): the algebra the tables are checked against. No command computes with it. -/

namespace Sys2Proof.Machine

/-- Multiplication by x in GF(2^8), where `poly` is the reduction polynomial without its x^8 term. -/
def xtime (poly a : Byte) : Byte := (a <<< 1) ^^^ (if a.msb then poly else 0)

/-- The sum of a·x^k over the lowest `n` bits k of `b`. -/
def gfMulBits (poly : Byte) : Nat → Byte → Byte → Byte
  | 0, _, _ => 0
  | n + 1, a, b => (if b.getLsbD 0 then a else 0) ^^^ gfMulBits poly n (xtime poly a) (b >>> 1)

/-- The product in GF(2^8). -/
def gfMul (poly a b : Byte) : Byte := gfMulBits poly 8 a b

/-- The square in GF(2^8). -/
def gfSq (poly a : Byte) : Byte := gfMul poly a a

/-- a^(2^n - 2): starting from 1, `n - 1` times square-and-multiply by a, then one square. -/
def gfInvSteps (poly a : Byte) : Nat → Byte → Byte
  | 0, acc => gfSq poly acc
  | n + 1, acc => gfInvSteps poly a n (gfMul poly (gfSq poly acc) a)

/-- The multiplicative inverse a^254, which is 0 for 0. -/
def gfInv (poly a : Byte) : Byte := gfInvSteps poly a 7 1

/-- The target field's polynomial 0x1F5 (R62), its x^8 term left out. -/
def targetPoly : Byte := 0xF5

/-- The foreign field's polynomial 0x11B (R68), its x^8 term left out. -/
def foreignPoly : Byte := 0x1B

/-- `inv_T` (R62). -/
def invT (y : Byte) : Byte := gfInv targetPoly y

/-- `inv_F` (R68). -/
def invF (y : Byte) : Byte := gfInv foreignPoly y

/-- The target cipher's affine map `A` (R62). -/
def affT (x : Byte) : Byte := x ^^^ rotl8 x 1 ^^^ rotl8 x 3 ^^^ rotl8 x 6 ^^^ rotl8 x 7

/-- The foreign cipher's affine map `A_F` (R68). -/
def affF (b : Byte) : Byte := b ^^^ rotl8 b 1 ^^^ rotl8 b 2 ^^^ rotl8 b 3 ^^^ rotl8 b 4

/-- The images of bits 0..7 under the field isomorphism `M` (R74). -/
def isoColumns : List Byte := [0x01, 0x69, 0x86, 0x67, 0x8E, 0x02, 0xD2, 0x17]

/-- The field isomorphism `M` from the target field to the foreign field (R74). -/
def iso (x : Byte) : Byte :=
  (isoColumns.zipIdx.map fun (col, k) => if x.getLsbD k then col else 0).foldl (· ^^^ ·) 0

end Sys2Proof.Machine
end

