-- ==== Sys2Proof/Safety.lean ====
section
/-! DEFINITION. The terms the claims are stated in: the situations a step can be in, what belongs to the CORE alone, a good final state, the invariant, and two of the spec's texts in its own form (the word-level CHECK of 44_host_commands.md R100, the key-word sequence of 42_key_schedule.md R84 and R85). -/

namespace Sys2Proof.Machine

/-- The next step is the host's access `a`, with the events `rest` after it. -/
abbrev State.presents (s : State) (a : HostAccess) (rest : List Event) : Prop :=
  s.turn = .host ∧ s.inbox = .access a :: rest

/-- The next step is the completion of `op`. -/
abbrev State.completes (s : State) (op : Op) : Prop :=
  s.turn = .core ∧ s.busy = true ∧ s.pend = some op ∧ s.stuck = false

/-- No command is pending and the host moves: a command word presented now is checked. -/
abbrev State.idle (s : State) : Prop := s.turn = .host ∧ s.busy = false

/-- The next step is the CORE's (44_host_commands.md R101). -/
def State.coreMoves (s : State) : Bool := decide (s.turn = .core) && s.busy && s.pend.isSome && !s.stuck

/-- The registers of the CORE (10_state.md R18): the state without the model's own fields and without `FAULTS`. -/
structure CoreRegs where
  busy : Bool
  schedValid : Bool
  ovr : Bool
  keyw : BitVec 4
  err : ErrCode
  key : Vector (Option Word) 4
  rk : Vector (Option Word) 32
  buf : Vector (Option Word) (4 * Config.nb)
  pend : Option Op
  deriving DecidableEq, Repr

/-- The CORE's part of a state. -/
def State.coreRegs (s : State) : CoreRegs where
  busy := s.busy
  schedValid := s.schedValid
  ovr := s.ovr
  keyw := s.keyw
  err := s.err
  key := s.key
  rk := s.rk
  buf := s.buf
  pend := s.pend

/-- The offsets that 20_memory.md R41 marks reserved, as its table lists them. -/
abbrev reservedOffset (n : Nat) : Prop :=
  (0x008 ≤ n ∧ n ≤ 0x00F) ∨ (0x020 ≤ n ∧ n ≤ 0x0FF) ∨ (0x180 ≤ n ∧ n ≤ 0x1FF) ∨
    (0x200 + 16 * Config.nb ≤ n ∧ n ≤ 0x27F) ∨ (0x280 ≤ n ∧ n ≤ 0xFFF)

/-- A good final state: nothing pending, nothing left to do, and no fault recorded (10_state.md R39). -/
abbrev State.goodFinal (s : State) : Prop := s.busy = false ∧ s.inbox = [] ∧ s.faults = []

/-- `CHECK(v)` as 44_host_commands.md R100 writes it, on the bits of the word. -/
def checkWord (v : Word) (s : State) : ErrCode :=
  let op := v.extractLsb' 0 4
  let rsv := v.extractLsb' 4 12
  let len := v.extractLsb' 16 16
  let need : Nat := if op = 0x0#4 then 0 else if op = 0x1#4 then 16 else if op = 0x4#4 then 16 else 16 * Config.nb
  if 5 ≤ op.toNat ∨ rsv ≠ 0 then .illegalCmd
  else if len.toNat ≠ need then .invalidInput
  else if op = 0x1#4 ∧ s.keyw ≠ 0b1111#4 then .invalidInput
  else if (op = 0x2#4 ∨ op = 0x3#4) ∧ s.schedValid = false then .noSchedule
  else .ok

/-- The words k_0, k_1, ... of a key schedule: MK ^ FK, then RK[0], RK[1], ... (R84). -/
def keyWordAt (mk : Vector Word 4) : Nat → Word
  | 0 => mk[0] ^^^ fk[0]
  | 1 => mk[1] ^^^ fk[1]
  | 2 => mk[2] ^^^ fk[2]
  | 3 => mk[3] ^^^ fk[3]
  | i + 4 => keyWordAt mk i ^^^ diffLp (tau (keyWordAt mk (i + 1) ^^^ keyWordAt mk (i + 2) ^^^ keyWordAt mk (i + 3) ^^^ ck i))

/-- What holds in every state that a run from reset reaches. -/
structure State.Inv (s : State) : Prop where
  /-- PEND holds an opcode exactly while BUSY (R21, R32). -/
  busy_iff_pend : s.busy = s.pend.isSome
  /-- KEYW records which key words hold a number (R25, R29). -/
  keyw_iff_key : ∀ j : Fin 4, s.keyw.getLsbD j.val = s.key[j].isSome
  /-- While SCHED_VALID, RK holds the schedule of some key (R22). -/
  valid_schedule : s.schedValid = true → ∃ mk : Vector Word 4, s.rk = (schedule mk).map some
  /-- Before the first schedule, RK holds ⊥ (R30). -/
  no_schedule : s.schedValid = false → s.rk = Vector.replicate 32 none
  /-- A pending KEYGEN has its four key words (R84). -/
  keygen_has_key : s.pend = some .keygen → s.keyw = 0b1111#4
  /-- A pending ENCB or DECB has its schedule (R90). -/
  batch_has_schedule : s.pend = some .encb ∨ s.pend = some .decb → s.schedValid = true
  /-- A stuck command's fault is recorded (R107). -/
  stuck_recorded : s.stuck = true → ∃ op, s.pend = some op ∧ FaultEvent.noValueCompletion op ∈ s.faults
  /-- The CORE has no step after a completion that raised a model fault (I13). -/
  stuck_turn : s.stuck = true → s.turn = .host
  /-- The next agent is the one that the free latency gives (R10). -/
  turn_chosen : s.turn = s.nextTurn

end Sys2Proof.Machine
end

