-- ==== Sys2Proof/Certificates/Slice0/Obligations.lean ====
section
/-! DEFINITION. The statements for the provers. -/

open Sys2Proof Sys2Proof.Machine

/-! ## Encoding -/

/-- Decoding a well-formed command's word gives the command back, with every LEN, OP and RSV (R52, R53, R58). -/
def Obligations.DecodeOfEncode : Prop :=
  ∀ i : Instr, i.wellFormed = true → decode (encode i) = i

/-- Every one of the 2^32 command words decodes to a well-formed command whose word it is: the decoder is total and
drops no bit (R56). -/
def Obligations.EncodeOfDecode : Prop :=
  ∀ w : Word, (decode w).wellFormed = true ∧ encode (decode w) = w

/-- R58: a word decodes by OP and RSV together to the row whose match it is, with LEN kept; any other value is
ILLEGAL_CMD; a row's word with the wrong LEN is INVALID_INPUT; the canonical words. -/
def Obligations.DecodeByMaskAndMatch : Prop :=
  (∀ (w : Word) (s : State),
    (w &&& 0x0000FFFF#32 = 0x00000000#32 →
      decode w = .nop (w.extractLsb' 16 16) ∧
        ((w.extractLsb' 16 16).toNat ≠ 0x0000 → check (decode w) s = .invalidInput)) ∧
    (w &&& 0x0000FFFF#32 = 0x00000001#32 →
      decode w = .keygen (w.extractLsb' 16 16) ∧
        ((w.extractLsb' 16 16).toNat ≠ 0x0010 → check (decode w) s = .invalidInput)) ∧
    (w &&& 0x0000FFFF#32 = 0x00000002#32 →
      decode w = .encb (w.extractLsb' 16 16) ∧
        ((w.extractLsb' 16 16).toNat ≠ 16 * Config.nb → check (decode w) s = .invalidInput)) ∧
    (w &&& 0x0000FFFF#32 = 0x00000003#32 →
      decode w = .decb (w.extractLsb' 16 16) ∧
        ((w.extractLsb' 16 16).toNat ≠ 16 * Config.nb → check (decode w) s = .invalidInput)) ∧
    (w &&& 0x0000FFFF#32 = 0x00000004#32 →
      decode w = .sbox16 (w.extractLsb' 16 16) ∧
        ((w.extractLsb' 16 16).toNat ≠ 0x0010 → check (decode w) s = .invalidInput)) ∧
    ((w &&& 0x0000FFFF#32 ≠ 0x00000000#32 ∧ w &&& 0x0000FFFF#32 ≠ 0x00000001#32 ∧ w &&& 0x0000FFFF#32 ≠ 0x00000002#32 ∧
        w &&& 0x0000FFFF#32 ≠ 0x00000003#32 ∧ w &&& 0x0000FFFF#32 ≠ 0x00000004#32) →
      check (decode w) s = .illegalCmd)) ∧
  encode Op.nop.command = 0x00000000#32 ∧ encode Op.keygen.command = 0x00100001#32 ∧
  encode Op.encb.command = 0x00400002#32 ∧ encode Op.decb.command = 0x00400003#32 ∧
  encode Op.sbox16.command = 0x00100004#32 ∧
  encode Op.encb.command = (BitVec.ofNat 32 (16 * Config.nb) <<< 16) ||| 0x2#32 ∧
  encode Op.decb.command = (BitVec.ofNat 32 (16 * Config.nb) <<< 16) ||| 0x3#32

/-- Words written out in 95_test_vectors.md §2.5 (V-CMD-1) and 30_encoding.md R58 decode to the commands they stand
for. A sanity statement. -/
def Obligations.SampleWordsDecode : Prop :=
  decode 0x00000000#32 = .nop 0 ∧ decode 0x00010000#32 = .nop 1 ∧ decode 0x00100001#32 = .keygen 16 ∧
  decode 0x00400002#32 = .encb 64 ∧ decode 0x00400003#32 = .decb 64 ∧ decode 0x00100004#32 = .sbox16 16 ∧
  decode 0x00000005#32 = .reserved 0x5 0 0 ∧ decode 0x00100014#32 = .reserved 0x4 0x001 16 ∧
  decode 0xFFFFFFFF#32 = .reserved 0xF 0xFFF 0xFFFF

/-- R100: the outcome of a decoded command word is the one the word-level CHECK computes from its bits, with the checks
in their order. -/
def Obligations.CheckFollowsWordLevelChecks : Prop :=
  ∀ (v : Word) (s : State), check (decode v) s = checkWord v s

/-! ## Commands at the CMD write -/

/-- When the host moves and its next access is a 32-bit write of CMD, the step is exec of the decoded word, in the state
whose inbox has lost that access, whose turn is the host's and whose `waited` is one more; when the CORE moves, the step
is exec of the pending command, which is not stuck. Around exec the step only chooses the next agent. The inbox, `turn` and `waited` are the
model's own (log entries 2 and 3). -/
def Obligations.StepRunsDecodedCommand : Prop :=
  (∀ (s : State) (v : Word) (rest : List Event), s.presents (.write 4 0x000#12 v) rest →
    step s = settle (exec (decode v) { s with inbox := rest, turn := .host, waited := s.waited + 1 })) ∧
  (∀ (s : State) (op : Op), s.completes op → step s = settle (exec op.command s)) ∧
  (∀ t : State, settle (.next t) = .next { t with turn := t.nextTurn })

/-- At the level of a step: what a CMD write does to every register of the CORE when BUSY = 1, when the word is rejected
and when it is accepted (the three register clauses are R99's). That the write is answered `ack`, also for a rejected or
dropped word, is the model's, not R99's: log entry 12 (DEDUCED, unsafe), in the field `reply` of log entry 2, and so is
`inbox`. -/
def Obligations.CmdWriteAcceptsRejectsOrDrops : Prop :=
  ∀ (s : State) (v : Word) (rest : List Event), s.presents (.write 4 0x000#12 v) rest →
    ∃ t : State, step s = .next t ∧ t.reply = some .ack ∧ t.inbox = rest ∧ t.faults = s.faults ∧
      (s.busy = true → t.coreRegs = { s.coreRegs with ovr := true }) ∧
      (s.busy = false → checkWord v s ≠ .ok →
        t.coreRegs = { s.coreRegs with err := checkWord v s, ovr := false }) ∧
      (s.busy = false → checkWord v s = .ok →
        ∃ op : Op, op.code = v.extractLsb' 0 4 ∧
          t.coreRegs = { s.coreRegs with err := .ok, ovr := false, pend := some op, busy := true })

/-- Each of the five commands in its accepted form is accepted when no command is pending and its own state check holds
(KEYGEN: all four key words written; ENCB, DECB: a valid schedule): the next state in full. `waited`, `accepted` and
`reply` are the model's own (log entries 2 and 3), the answer `ack` that of log entry 12 (DEDUCED, unsafe). -/
def Obligations.CommandsAreAccepted : Prop :=
  ∀ (s : State) (op : Op), s.idle → (op = .keygen → s.keyw = 0b1111#4) →
    (op = .encb ∨ op = .decb → s.schedValid = true) →
    exec op.command s = .next
      { s with
        err := .ok, ovr := false, pend := some op, busy := true
        waited := 0, accepted := s.accepted + 1, reply := some .ack }

/-- A reserved word presented while no command is pending has in the CORE the effect of R56 and R110: ERR says
ILLEGAL_CMD, OVR is cleared, and no other register changes, whatever OP, RSV and LEN. That the write is answered `ack`,
also for a rejected word, is the model's, not those rules': log entry 12 (DEDUCED, unsafe), in the field `reply` of log
entry 2. -/
def Obligations.ReservedWordIsRejected : Prop :=
  ∀ (op : BitVec 4) (rsv : BitVec 12) (len : BitVec 16) (s : State), s.busy = false →
    exec (.reserved op rsv len) s = .next { s with err := .illegalCmd, ovr := false, reply := some .ack }

/-- A LEN other than the required one is rejected with INVALID_INPUT, for each of the five commands, before any check of
the state; in the CORE only ERR and OVR change (R54, R99, R100). That the write is answered `ack`, also for a rejected
word, is the model's, not those rules': log entry 12 (DEDUCED, unsafe), in the field `reply` of log entry 2. -/
def Obligations.WrongLengthIsRejected : Prop :=
  ∀ (s : State) (len : BitVec 16), s.idle →
    let rejected : State := { s with err := .invalidInput, ovr := false, reply := some .ack }
    (len.toNat ≠ 0 → exec (.nop len) s = .next rejected) ∧
    (len.toNat ≠ 16 → exec (.keygen len) s = .next rejected) ∧
    (len.toNat ≠ 16 * Config.nb → exec (.encb len) s = .next rejected) ∧
    (len.toNat ≠ 16 * Config.nb → exec (.decb len) s = .next rejected) ∧
    (len.toNat ≠ 16 → exec (.sbox16 len) s = .next rejected)

/-- KEYGEN of the right length with a key word missing is rejected with INVALID_INPUT; ENCB and DECB of the right length
without a schedule with NO_SCHEDULE; in the CORE only ERR and OVR change (R99, R100, R105). That the write is answered
`ack`, also for a rejected word, is the model's, not those rules': log entry 12 (DEDUCED, unsafe), in the field `reply` of
log entry 2. -/
def Obligations.MissingKeyOrScheduleIsRejected : Prop :=
  ∀ s : State, s.idle →
    (s.keyw ≠ 0b1111#4 →
      exec (.keygen 16#16) s = .next { s with err := .invalidInput, ovr := false, reply := some .ack }) ∧
    (s.schedValid = false →
      exec (.encb 64#16) s = .next { s with err := .noSchedule, ovr := false, reply := some .ack } ∧
      exec (.decb 64#16) s = .next { s with err := .noSchedule, ovr := false, reply := some .ack })

/-- A command word presented while a command is pending is ignored: OVR is set and nothing else of the CORE changes,
whatever the word (R99, R122). That the dropped write is answered `ack` is the model's: log entry 12 (DEDUCED, unsafe),
in the field `reply` of log entry 2. -/
def Obligations.CommandWhileBusyIsDropped : Prop :=
  ∀ (i : Instr) (s : State), s.turn = .host → s.busy = true →
    exec i s = .next { s with ovr := true, reply := some .ack }

/-! ## Completions -/

/-- The completion of NOP clears PEND and BUSY and changes nothing else (R102). -/
def Obligations.NopCompletes : Prop :=
  ∀ (s : State) (len : BitVec 16), s.completes .nop → exec (.nop len) s = .next { s with pend := none, busy := false }

/-- The completion of KEYGEN on the key words `mk`: RK[i] is the word k_(i+4) of the sequence of R84, SCHED_VALID is set,
the key is consumed, and nothing else changes but PEND and BUSY. -/
def Obligations.KeygenCompletes : Prop :=
  ∀ (s : State) (len : BitVec 16) (mk : Vector Word 4), s.completes .keygen → s.key = mk.map some →
    ∃ rk : Vector Word 32,
      exec (.keygen len) s = .next
        { s with
          rk := rk.map some, schedValid := true, key := Vector.replicate 4 none, keyw := 0b0000#4
          pend := none, busy := false } ∧
      ∀ i : Fin 32, rk[i] = keyWordAt mk (i.val + 4)

/-- The completion of ENCB on the batch `p` with the schedule `rk`: word j of block b becomes x_(35-j) of the block's own
sequence, with the round keys 0..31 in order (R91, R93); nothing else changes but PEND and BUSY. -/
def Obligations.EncbCompletes : Prop :=
  ∀ (s : State) (len : BitVec 16) (rk : Vector Word 32) (p : Vector Word 16), s.completes .encb →
    s.rk = rk.map some → s.buf = p.map some →
    ∃ q : Vector Word 16,
      exec (.encb len) s = .next { s with buf := q.map some, pend := none, busy := false } ∧
      ∀ b j : Fin 4, q[4 * b.val + j.val] =
        blockWordAt p[4 * b.val] p[4 * b.val + 1] p[4 * b.val + 2] p[4 * b.val + 3]
          (fun r => if h : r < 32 then rk[r] else 0) (35 - j.val)

/-- The completion of DECB: as ENCB, with the round keys 31..0 (R92, R93). -/
def Obligations.DecbCompletes : Prop :=
  ∀ (s : State) (len : BitVec 16) (rk : Vector Word 32) (p : Vector Word 16), s.completes .decb →
    s.rk = rk.map some → s.buf = p.map some →
    ∃ q : Vector Word 16,
      exec (.decb len) s = .next { s with buf := q.map some, pend := none, busy := false } ∧
      ∀ b j : Fin 4, q[4 * b.val + j.val] =
        blockWordAt p[4 * b.val] p[4 * b.val + 1] p[4 * b.val + 2] p[4 * b.val + 3]
          (fun r => rk[31 - r]) (35 - j.val)

/-- The completion of SBOX16: BUF[0..3] become tau of themselves, and nothing else changes but PEND and BUSY (R83). The
words of BUF beyond the first four may hold ⊥. -/
def Obligations.Sbox16Completes : Prop :=
  ∀ (s : State) (len : BitVec 16) (w : Vector Word 4), s.completes .sbox16 →
    (∀ m : Fin 4, s.buf[m.val] = some w[m]) →
    ∃ b : Vector (Option Word) 16,
      exec (.sbox16 len) s = .next { s with buf := b, pend := none, busy := false } ∧
      (∀ m : Fin 4, b[m.val] = some (tau w[m])) ∧
      (∀ k : Fin 16, 4 ≤ k.val → b[k] = s.buf[k.val])

/-- The completion of a command that needs a word holding ⊥ writes nothing: the model fault is recorded, BUSY and PEND
stay, and the command is stuck (R107, R109; I13 and P7; the field `stuck` is the model's, log entry 5). -/
def Obligations.CompletionWithoutValueWritesNothing : Prop :=
  ∀ (s : State) (len : BitVec 16),
    let faulted (op : Op) : State := { s with faults := s.faults ++ [.noValueCompletion op], stuck := true }
    (s.completes .keygen → (∃ j : Fin 4, s.key[j] = none) → exec (.keygen len) s = .next (faulted .keygen)) ∧
    (s.completes .encb → (∃ w : Fin 16, s.buf[w.val] = none) ∨ (∃ i : Fin 32, s.rk[i] = none) →
      exec (.encb len) s = .next (faulted .encb)) ∧
    (s.completes .decb → (∃ w : Fin 16, s.buf[w.val] = none) ∨ (∃ i : Fin 32, s.rk[i] = none) →
      exec (.decb len) s = .next (faulted .decb)) ∧
    (s.completes .sbox16 → (∃ m : Fin 4, s.buf[m.val] = none) → exec (.sbox16 len) s = .next (faulted .sbox16))

/-- Every state has a next state, and every instruction answers one in every state: no error of the spec stops the
machine (R106, R107, R110; for the state after a model fault, log entry 5). -/
def Obligations.EveryStateHasANextState : Prop :=
  (∀ s : State, ∃ t : State, step s = .next t) ∧ ∀ (i : Instr) (s : State), ∃ t : State, exec i s = .next t

/-! ## The datapath -/

/-- R82: the two backends give the same engine register on every input, SBOX in every lane, so nothing that SBOX16, ENCB
or DECB computes depends on the backend. -/
def Obligations.BackendsAgree : Prop :=
  (∀ e : EngineReg, seAes e = seTable e ∧ ∀ i : Fin 16, (seAes e)[i] = sbox e[i]) ∧
  (∀ (bk bk' : Config.SubBackend) (w : Vector Word 4), engineWords bk w = engineWords bk' w) ∧
  (∀ (nb : Nat) (bk bk' : Config.SubBackend) (dir : Dir) (rk : Vector Word 32) (p : Vector Word (4 * nb)),
    cryptBatch bk dir rk p = cryptBatch bk' dir rk p)

/-- R75: the affine conjugation of the foreign table is the target's table at every byte. -/
def Obligations.ConjugationIsExact : Prop :=
  ∀ x : Byte, ata (aesSbox (ta x ^^^ c1)) ^^^ c2 = sbox x

/-- R78: one or several engine passes over a vector of words apply tau to each word, whatever the number of words (so the
don't-care lanes of a last group reach no result). -/
def Obligations.EngineAppliesTauToEveryWord : Prop :=
  ∀ (n : Nat) (bk : Config.SubBackend) (v : Vector Word n), engineVec bk v = v.map tau

/-- R62: the target table in its algebraic form, with inverses in the field of 0x1F5. -/
def Obligations.SboxHasItsAlgebraicForm : Prop :=
  (∀ x : Byte, sbox x = affT (invT (affT x ^^^ 0xD3#8)) ^^^ 0xD3#8) ∧
  invT 0 = 0 ∧ (∀ y : Byte, y ≠ 0 → gfMul targetPoly y (invT y) = 1)

/-- R69: the foreign table in its algebraic form, with inverses in the field of 0x11B (R68). -/
def Obligations.AesSboxHasItsAlgebraicForm : Prop :=
  (∀ x : Byte, aesSbox x = affF (invF x) ^^^ 0x63#8) ∧
  invF 0 = 0 ∧ (∀ y : Byte, y ≠ 0 → gfMul foreignPoly y (invF y) = 1)

/-- R74: M respects multiplication and sums, and the engine's maps and constants are the ones it gives. -/
def Obligations.IsomorphismGivesTheEngineMaps : Prop :=
  (∀ x y : Byte, iso (gfMul targetPoly x y) = gfMul foreignPoly (iso x) (iso y)) ∧
  (∀ x y : Byte, iso (x ^^^ y) = iso x ^^^ iso y) ∧
  (∀ x : Byte, ta x = iso (affT x)) ∧ c1 = iso 0xD3#8 ∧
  (∀ x : Byte, ata (affF (iso x)) = affT x) ∧ c2 = ata 0x63#8 ^^^ 0xD3#8

/-- R71 for the tables of R72 and R73: TA and ATA are GF(2)-linear, LO[n] is the image of n and HI[n] the image of
n << 4, and 0 goes to 0. -/
def Obligations.EngineMapsAreLinear : Prop :=
  (∀ x y : Byte, ta (x ^^^ y) = ta x ^^^ ta y ∧ ata (x ^^^ y) = ata x ^^^ ata y) ∧
  (∀ n : Fin 16, taLo[n.val]? = some (ta (BitVec.ofNat 8 n.val)) ∧ taHi[n.val]? = some (ta (BitVec.ofNat 8 n.val <<< 4)) ∧
    ataLo[n.val]? = some (ata (BitVec.ofNat 8 n.val)) ∧ ataHi[n.val]? = some (ata (BitVec.ofNat 8 n.val <<< 4))) ∧
  ta 0 = 0 ∧ ata 0 = 0

/-- R66: the round function's diffusion step is linear over GF(2) and invertible. -/
def Obligations.RoundDiffusionIsLinearAndInvertible : Prop :=
  (∀ b : Word, diffL b = b ^^^ rotl b 2 ^^^ rotl b 10 ^^^ rotl b 18 ^^^ rotl b 24) ∧
  (∀ a b : Word, diffL (a ^^^ b) = diffL a ^^^ diffL b) ∧ diffL 0 = 0 ∧ Function.Bijective diffL

/-- R67: the key schedule's diffusion step is linear over GF(2) and invertible. -/
def Obligations.KeyDiffusionIsLinearAndInvertible : Prop :=
  (∀ t : Word, diffLp t = t ^^^ rotl t 13 ^^^ rotl t 23) ∧
  (∀ a b : Word, diffLp (a ^^^ b) = diffLp a ^^^ diffLp b) ∧ diffLp 0 = 0 ∧ Function.Bijective diffLp

/-- R61 and the corner case of R83: SBOX is a permutation of the bytes with exactly one fixed point, 0xAB. -/
def Obligations.SboxIsAPermutationWithOneFixedPoint : Prop :=
  Function.Bijective sbox ∧ ∀ x : Byte, sbox x = x ↔ x = 0xAB#8

/-- R70: SR and ISR are inverse to each other, and the foreign primitive with a zero key after ISR acts on every byte in
place. -/
def Obligations.ShiftRowsIsUndone : Prop :=
  (∀ i : Fin 16, isr[sr[i]] = i ∧ sr[isr[i]] = i) ∧
  (∀ e : EngineReg, aesEncLast (Vector.ofFn fun i => e[isr[i]]) (Vector.replicate 16 0) = e.map aesSbox)

/-- R85: the dependence of the schedule, for i ≥ 4 on the four round keys before and CK[i], for i < 4 on MK ^ FK too. -/
def Obligations.ScheduleRecurrence : Prop :=
  ∀ mk : Vector Word 4,
    (∀ (i : Nat) (h : i + 4 < 32), (schedule mk)[i + 4] =
      (schedule mk)[i] ^^^ diffLp (tau ((schedule mk)[i + 1] ^^^ (schedule mk)[i + 2] ^^^ (schedule mk)[i + 3] ^^^ ck (i + 4)))) ∧
    (schedule mk)[0] = (mk[0] ^^^ fk[0]) ^^^
      diffLp (tau ((mk[1] ^^^ fk[1]) ^^^ (mk[2] ^^^ fk[2]) ^^^ (mk[3] ^^^ fk[3]) ^^^ ck 0)) ∧
    (schedule mk)[1] = (mk[1] ^^^ fk[1]) ^^^
      diffLp (tau ((mk[2] ^^^ fk[2]) ^^^ (mk[3] ^^^ fk[3]) ^^^ (schedule mk)[0] ^^^ ck 1)) ∧
    (schedule mk)[2] = (mk[2] ^^^ fk[2]) ^^^
      diffLp (tau ((mk[3] ^^^ fk[3]) ^^^ (schedule mk)[0] ^^^ (schedule mk)[1] ^^^ ck 2)) ∧
    (schedule mk)[3] = (mk[3] ^^^ fk[3]) ^^^
      diffLp (tau ((schedule mk)[0] ^^^ (schedule mk)[1] ^^^ (schedule mk)[2] ^^^ ck 3))

/-- R86: two KEYGEN completions on the same key words give the same RK, whatever else the two states hold. -/
def Obligations.ScheduleDependsOnTheKeyAlone : Prop :=
  ∀ (s s' : State) (mk : Vector Word 4), s.completes .keygen → s'.completes .keygen → s.key = mk.map some → s'.key = s.key →
    ∃ t t' : State, exec (.keygen 16#16) s = .next t ∧ exec (.keygen 16#16) s' = .next t' ∧ t.rk = t'.rk ∧
      ∀ i : Fin 32, t.rk[i].isSome = true

/-- R93, for every batch width and backend: CRYPT replaces each block by the per-block function of that block alone. -/
def Obligations.CryptIsPerBlock : Prop :=
  ∀ (nb : Nat) (bk : Config.SubBackend) (dir : Dir) (rk : Vector Word 32) (p : Vector Word (4 * nb)) (b : Fin nb)
    (j : Fin 4) (x0 x1 x2 x3 : Word),
    p[4 * b.val]? = some x0 → p[4 * b.val + 1]? = some x1 → p[4 * b.val + 2]? = some x2 → p[4 * b.val + 3]? = some x3 →
    (cryptBatch bk dir rk p)[4 * b.val + j.val]? =
      some (blockWordAt x0 x1 x2 x3
        (fun r => match dir with
          | .enc => if h : r < 32 then rk[r] else 0
          | .dec => rk[31 - r]) (35 - j.val))

/-- R94: a block's result depends only on the block's input and on RK: not on the other blocks, its place, NB, or the
backend. -/
def Obligations.BlocksAreIndependent : Prop :=
  ∀ (nb nb' : Nat) (bk bk' : Config.SubBackend) (dir : Dir) (rk : Vector Word 32) (p : Vector Word (4 * nb))
    (p' : Vector Word (4 * nb')) (b : Fin nb) (b' : Fin nb'),
    (∀ j : Fin 4, p[4 * b.val + j.val]? = p'[4 * b'.val + j.val]?) →
    ∀ j : Fin 4, (cryptBatch bk dir rk p)[4 * b.val + j.val]? = (cryptBatch bk' dir rk p')[4 * b'.val + j.val]?

/-- R95, on the commands: ENCB then DECB on the same schedule leaves BUF as it was, and so does DECB then ENCB. Between
the two completions anything may happen that leaves BUF and RK as the first one left them. -/
def Obligations.DecryptionUndoesEncryption : Prop :=
  ∀ (s : State) (len len' : BitVec 16) (rk : Vector Word 32) (p : Vector Word 16),
    s.rk = rk.map some → s.buf = p.map some →
    (s.completes .encb → ∃ t : State, exec (.encb len) s = .next t ∧
      ∀ u : State, u.completes .decb → u.rk = t.rk → u.buf = t.buf →
        ∃ v : State, exec (.decb len') u = .next v ∧ v.buf = s.buf) ∧
    (s.completes .decb → ∃ t : State, exec (.decb len) s = .next t ∧
      ∀ u : State, u.completes .encb → u.rk = t.rk → u.buf = t.buf →
        ∃ v : State, exec (.encb len') u = .next v ∧ v.buf = s.buf)

/-! ## The host's reads and writes -/

/-- R96: what a 32-bit read of each register answers, and that it changes nothing in the CORE. -/
def Obligations.HostReadsFollowTheirRule : Prop :=
  ∀ (s : State) (off : Offset) (rest : List Event), s.presents (.read 4 off) rest →
    ∃ t : State, step s = .next t ∧ t.coreRegs = s.coreRegs ∧ t.inbox = rest ∧
      let answers (v : Word) : Prop := t.reply = some (.data v) ∧ t.faults = s.faults
      let busyError : Prop := t.reply = some .error ∧ t.faults = s.faults ++ [.busError .busy (.read 4 off)]
      let noValue : Prop := t.reply = some .noValue ∧ t.faults = s.faults ++ [.noValueRead (.read 4 off)]
      (off.toNat = 0x000 → answers 0) ∧
      (off.toNat = 0x004 → answers
        (((BitVec.ofNat 32 Config.nb) <<< 16) ||| (s.err.code.setWidth 32 <<< 8) ||| (s.keyw.setWidth 32 <<< 4) |||
          ((if s.ovr then 1#32 else 0) <<< 2) ||| ((if s.schedValid then 1#32 else 0) <<< 1) ||| (if s.busy then 1#32 else 0))) ∧
      (∀ j : Fin 4, off.toNat = 0x010 + 4 * j.val →
        (s.busy = true → busyError) ∧ (s.busy = false → answers 0)) ∧
      (∀ i : Fin 32, off.toNat = 0x100 + 4 * i.val →
        (s.busy = true → busyError) ∧
        (s.busy = false → s.rk[i] = none → noValue) ∧ (∀ v, s.busy = false → s.rk[i] = some v → answers v)) ∧
      (∀ w : Fin 16, off.toNat = 0x200 + 4 * w.val →
        (s.busy = true → busyError) ∧
        (s.busy = false → s.buf[w.val] = none → noValue) ∧ (∀ v, s.busy = false → s.buf[w.val] = some v → answers v))

/-- R97: what a 32-bit write of each register other than CMD does; a write of CMD is the command word's (the other
statements). -/
def Obligations.HostWritesFollowTheirRule : Prop :=
  ∀ (s : State) (off : Offset) (v : Word) (rest : List Event), s.presents (.write 4 off v) rest →
    (off.toNat = 0x000 → step s = settle (exec (decode v) { s with inbox := rest, turn := .host, waited := s.waited + 1 })) ∧
    ∃ t : State, step s = .next t ∧ t.inbox = rest ∧
      let busError (r : BusReason) : Prop := t.coreRegs = s.coreRegs ∧ t.reply = some .error ∧
        t.faults = s.faults ++ [.busError r (.write 4 off v)]
      let stores (c : CoreRegs) : Prop := t.coreRegs = c ∧ t.reply = some .ack ∧ t.faults = s.faults
      (off.toNat = 0x004 → busError .ro) ∧
      (∀ i : Fin 32, off.toNat = 0x100 + 4 * i.val → busError .ro) ∧
      (∀ j : Fin 4, off.toNat = 0x010 + 4 * j.val →
        (s.busy = true → busError .busy) ∧
        (s.busy = false → stores { s.coreRegs with key := s.key.set j (some v), keyw := s.keyw ||| (1#4 <<< j.val) })) ∧
      (∀ w : Fin 16, off.toNat = 0x200 + 4 * w.val →
        (s.busy = true → busError .busy) ∧
        (s.busy = false → stores { s.coreRegs with buf := s.buf.set w.val (some v) }))

/-- R42 and R43: an access of a size other than 32 bits, and a 32-bit aligned access of a reserved offset, is a bus error
that changes nothing in the CORE; a 32-bit access of an offset that is no multiple of 4 is one too, and size is checked
before alignment, alignment before mapping. -/
def Obligations.AddressChecksComeInOrder : Prop :=
  ∀ (s : State) (a : HostAccess) (size : Nat) (off : Offset) (rest : List Event),
    (a = .read size off ∨ ∃ v, a = .write size off v) → s.presents a rest →
    ∃ t : State, step s = .next t ∧ t.inbox = rest ∧
      let busError (r : BusReason) : Prop := t.coreRegs = s.coreRegs ∧ t.reply = some .error ∧
        t.faults = s.faults ++ [.busError r a]
      (size ≠ 4 → busError .size) ∧
      (size = 4 → off.toNat % 4 ≠ 0 → busError .align) ∧
      (size = 4 → off.toNat % 4 = 0 → reservedOffset off.toNat → busError .unmapped)

/-- R98 with the check order of R97: while BUSY = 1, a 32-bit aligned access succeeds exactly on reads of STATUS and CMD
and writes of CMD. Every other one is answered with an error, changes nothing in the CORE and is recorded. -/
def Obligations.PendingWindowAdmitsOnlyStatusAndCmd : Prop :=
  ∀ (s t : State) (off : Offset) (rest : List Event), s.busy = true → off.toNat % 4 = 0 → step s = .next t →
    (s.presents (.read 4 off) rest →
      ((off.toNat = 0x000 ∨ off.toNat = 0x004) → (∃ v, t.reply = some (.data v)) ∧ t.faults = s.faults) ∧
      (off.toNat ≠ 0x000 → off.toNat ≠ 0x004 →
        t.reply = some .error ∧ t.coreRegs = s.coreRegs ∧ ∃ r, t.faults = s.faults ++ [.busError r (.read 4 off)])) ∧
    (∀ v, s.presents (.write 4 off v) rest →
      (off.toNat = 0x000 → t.reply = some .ack ∧ t.faults = s.faults) ∧
      (off.toNat ≠ 0x000 →
        t.reply = some .error ∧ t.coreRegs = s.coreRegs ∧ ∃ r, t.faults = s.faults ++ [.busError r (.write 4 off v)]))

/-- R24 and R27 with the layout of R20: the fields of the STATUS word. The reserved bits read 0 in every state and the NB
field is the constant NB. -/
def Obligations.StatusWordHasItsLayout : Prop :=
  ∀ s : State,
    s.statusWord.getLsbD 0 = s.busy ∧ s.statusWord.getLsbD 1 = s.schedValid ∧ s.statusWord.getLsbD 2 = s.ovr ∧
    s.statusWord.getLsbD 3 = false ∧ s.statusWord.extractLsb' 4 4 = s.keyw ∧
    s.statusWord.extractLsb' 8 4 = s.err.code ∧ s.statusWord.extractLsb' 12 4 = 0#4 ∧
    (s.statusWord.extractLsb' 16 4).toNat = Config.nb ∧ s.statusWord.extractLsb' 20 12 = 0#12

/-- The 4096 offsets of the window lie at CORE_BASE + off, each reached by its own platform address, and no other address
reaches the CORE (R8, R40). That CORE_BASE is a multiple of 4096 holds by the model's construction (log entry 10, DESIGN
CHOICE), which follows the parameter table of 92_eei_decisions.md, "any platform address aligned to 4096". -/
def Obligations.WindowIsPlacedAtCoreBase : Prop :=
  4096 ∣ Config.coreBase ∧
  (∀ off : Offset, platformAddr off = Config.coreBase + off.toNat ∧ windowOffset (platformAddr off) = some off) ∧
  (∀ addr : Nat, addr < Config.coreBase ∨ Config.coreBase + 4096 ≤ addr → windowOffset addr = none)

/-! ## Rules of the whole machine -/

/-- The acceptance of a command and nothing else sets BUSY; its completion or reset, and nothing else, clears it; it is 0
after reset (R21). That a completion which needs a ⊥ word leaves BUSY at 1 and sets `stuck` is not R21's: it is log entry
5 (DEDUCED; the field `stuck` a DESIGN CHOICE). -/
def Obligations.BusyIsSetByAcceptanceAndClearedByCompletion : Prop :=
  State.reset.busy = false ∧
  ∀ s t : State, step s = .next t →
    (s.busy = false → t.busy = true →
      ∃ v rest, s.inbox = .access (.write 4 0x000#12 v) :: rest ∧ checkWord v s = .ok) ∧
    (s.busy = true → t.busy = false →
      s.coreMoves = true ∨ (s.coreMoves = false ∧ ∃ rest, s.inbox = .reset :: rest)) ∧
    (∀ v rest, s.coreMoves = false → s.busy = false → s.inbox = .access (.write 4 0x000#12 v) :: rest →
      checkWord v s = .ok → t.busy = true) ∧
    (s.coreMoves = true → t.busy = false ∨ t.stuck = true) ∧
    (∀ rest, s.coreMoves = false → s.inbox = .reset :: rest → t.busy = false)

/-- R22: only the completion of KEYGEN sets SCHED_VALID, only reset clears it; it is 0 after reset. -/
def Obligations.SchedValidIsSetByKeygenAndClearedByReset : Prop :=
  State.reset.schedValid = false ∧
  ∀ s t : State, step s = .next t →
    (s.schedValid = false → t.schedValid = true → s.coreMoves = true ∧ s.pend = some .keygen) ∧
    (s.schedValid = true → t.schedValid = false → s.coreMoves = false ∧ ∃ rest, s.inbox = .reset :: rest)

/-- R23: OVR after a CMD write is BUSY as the write found it, after reset 0, and every other step leaves it. -/
def Obligations.OvrRecordsADroppedCommand : Prop :=
  State.reset.ovr = false ∧
  ∀ s t : State, step s = .next t →
    (∀ v rest, s.coreMoves = false → s.inbox = .access (.write 4 0x000#12 v) :: rest → t.ovr = s.busy) ∧
    (∀ rest, s.coreMoves = false → s.inbox = .reset :: rest → t.ovr = false) ∧
    (s.coreMoves = true ∨ (∀ v rest, s.inbox ≠ .access (.write 4 0x000#12 v) :: rest) ∧ (∀ rest, s.inbox ≠ .reset :: rest) →
      t.ovr = s.ovr)

/-- R25: bit j of KEYW is set by a write of KEY[j] made while not BUSY, all four are cleared by the completion of KEYGEN
and by reset, every other step leaves them, and KEYGEN of the right length passes the check exactly with all four. -/
def Obligations.KeywRecordsTheKeyWordsWritten : Prop :=
  State.reset.keyw = 0b0000#4 ∧
  (∀ s : State, check (.keygen 16#16) s = .ok ↔ s.keyw = 0b1111#4) ∧
  (∀ s : State, s.keyw ≠ 0b1111#4 → check (.keygen 16#16) s = .invalidInput) ∧
  ∀ s t : State, step s = .next t →
    (∀ (j : Fin 4) (off : Offset) v rest, s.coreMoves = false → s.busy = false → off.toNat = 0x010 + 4 * j.val →
      s.inbox = .access (.write 4 off v) :: rest →
      ∀ k : Fin 4, t.keyw.getLsbD k.val = (s.keyw.getLsbD k.val || decide (k = j))) ∧
    (s.coreMoves = true → s.pend = some .keygen → t.busy = false → t.keyw = 0b0000#4) ∧
    (∀ rest, s.coreMoves = false → s.inbox = .reset :: rest → t.keyw = 0b0000#4) ∧
    (t.keyw = s.keyw ∨ (s.coreMoves = true ∧ s.pend = some .keygen) ∨
      (s.coreMoves = false ∧ ((∃ rest, s.inbox = .reset :: rest) ∨
        (s.busy = false ∧ ∃ (j : Fin 4) (off : Offset) (v : Word) (rest : List Event), off.toNat = 0x010 + 4 * j.val ∧
          s.inbox = .access (.write 4 off v) :: rest))))

/-- R26 and R111: ERR is the outcome of the last CMD write made while not BUSY; a CMD write while BUSY and a completion
leave it; reset writes OK. Its code is 0 to 3. -/
def Obligations.ErrIsTheLastOutcome : Prop :=
  State.reset.err = .ok ∧ (∀ e : ErrCode, e.code.toNat ≤ 3) ∧
  ErrCode.ok.code = 0#4 ∧ ErrCode.invalidInput.code = 1#4 ∧ ErrCode.illegalCmd.code = 2#4 ∧ ErrCode.noSchedule.code = 3#4 ∧
  ∀ s t : State, step s = .next t →
    (∀ v rest, s.coreMoves = false → s.busy = false → s.inbox = .access (.write 4 0x000#12 v) :: rest →
      t.err = checkWord v s) ∧
    (∀ rest, s.coreMoves = false → s.inbox = .reset :: rest → t.err = .ok) ∧
    (s.coreMoves = true ∨ ((s.busy = true ∨ ∀ v rest, s.inbox ≠ .access (.write 4 0x000#12 v) :: rest) ∧
      ∀ rest, s.inbox ≠ .reset :: rest) → t.err = s.err)

/-- R30: only the completion of KEYGEN writes RK, and reset makes it ⊥. -/
def Obligations.RoundKeysAreWrittenOnlyByKeygen : Prop :=
  ∀ s t : State, step s = .next t → t.rk ≠ s.rk →
    (s.coreMoves = true ∧ s.pend = some .keygen) ∨ (s.coreMoves = false ∧ ∃ rest, s.inbox = .reset :: rest)

/-- A word of BUF changes only by the completion of ENCB, DECB or SBOX16, by a host write of that word made while not
BUSY, or by reset; the completion of SBOX16 changes only the first four (R31, R83, R97, R102). -/
def Obligations.BufferWordsChangeOnlyByTheirWriters : Prop :=
  ∀ (s t : State) (w : Fin 16), step s = .next t → t.buf[w.val] ≠ s.buf[w.val] →
    (s.coreMoves = true ∧ (s.pend = some .encb ∨ s.pend = some .decb ∨ (s.pend = some .sbox16 ∧ w.val < 4))) ∨
    (s.coreMoves = false ∧ ∃ rest, s.inbox = .reset :: rest) ∨
    (s.coreMoves = false ∧ s.busy = false ∧ ∃ (off : Offset) (v : Word) (rest : List Event),
      off.toNat = 0x200 + 4 * w.val ∧ s.inbox = .access (.write 4 off v) :: rest ∧ t.buf[w.val] = some v)

/-- R51 and R47: while a command is pending, no host step changes what it is or the data it reads. -/
def Obligations.PendingCommandIsSealed : Prop :=
  ∀ s t : State, s.busy = true → s.coreMoves = false → (∀ rest, s.inbox ≠ .reset :: rest) → step s = .next t →
    t.busy = true ∧ t.pend = s.pend ∧ t.key = s.key ∧ t.keyw = s.keyw ∧ t.rk = s.rk ∧ t.schedValid = s.schedValid ∧
      t.buf = s.buf ∧ t.err = s.err

/-- R29: key material is never readable. Replacing the key words in a state changes nothing that any step but the
completion of KEYGEN shows the host: not the reply, STATUS, RK, BUF or `FAULTS`. The clause on `turn` is the model's: it
compares two runs whose latency is one function of the acceptance index (log entry 3, unsafe for such comparisons; R10
fixes no latency). -/
def Obligations.KeyIsNeverReadable : Prop :=
  ∀ (s t : State) (k : Vector (Option Word) 4), (s.coreMoves = true → s.pend ≠ some .keygen) → step s = .next t →
    ∃ t' : State, step { s with key := k } = .next t' ∧ t'.reply = t.reply ∧ t'.statusWord = t.statusWord ∧
      t'.rk = t.rk ∧ t'.buf = t.buf ∧ t'.faults = t.faults ∧ t'.pend = t.pend ∧ t'.turn = t.turn

/-- R39: no step removes an entry of `FAULTS`, reset included, so a state with a fault recorded never leads to a good
final state. -/
def Obligations.FaultsAreNeverRemoved : Prop :=
  (∀ s t : State, step s = .next t → ∃ l, t.faults = s.faults ++ l) ∧
  (∀ (n : Nat) (s t : State), Host.Core.run Sys2Proof.core n s = .next t → s.faults ≠ [] → ¬ t.goodFinal)

/-! ## Reset, rest and the invariant -/

/-- The reset event, also while a command is pending: every field that R119 lists has its value, PEND and every word of
KEY, RK and BUF hold ⊥, `FAULTS` is kept and STATUS reads 0x00040000. The values of `stuck`, `reply`, `turn` and `waited`
are the model's (log entries 2, 3 and 5). -/
def Obligations.ResetEventGivesTheResetState : Prop :=
  ∀ (s : State) (rest : List Event), s.coreMoves = false → s.inbox = .reset :: rest →
    step s = .next { State.reset with faults := s.faults, inbox := rest, accepted := s.accepted } ∧
    State.reset.busy = false ∧ State.reset.schedValid = false ∧ State.reset.ovr = false ∧ State.reset.keyw = 0b0000#4 ∧
    State.reset.err = .ok ∧ State.reset.pend = none ∧ State.reset.statusWord = 0x00040000#32 ∧
    (∀ j : Fin 4, State.reset.key[j] = none) ∧ (∀ i : Fin 32, State.reset.rk[i] = none) ∧
    (∀ w : Fin 16, State.reset.buf[w.val] = none)

/-- R118: with no command pending and nothing to do, a step keeps all state. -/
def Obligations.IdleKeepsAllState : Prop :=
  ∀ s : State, s.idle → s.inbox = [] → step s = .next s

/-- A pending command that is not stuck comes to its completion: after at most the free number of host steps, and at most
as many as the host still makes, it is the CORE's turn, with the command and its operands as they were. This is the
finite latency of R10 and the fairness of R101 in the model's form (log entry 3). -/
def Obligations.PendingCommandComesToCompletion : Prop :=
  ∀ s : State, s.Inv → s.busy = true → s.stuck = false → Event.reset ∉ s.inbox →
    ∃ (n : Nat) (t : State), n ≤ s.inbox.length ∧ n ≤ Config.latency s.accepted - s.waited ∧
      Host.Core.run Sys2Proof.core n s = .next t ∧ t.coreMoves = true ∧ t.stuck = false ∧ t.pend = s.pend ∧
      t.key = s.key ∧ t.rk = s.rk ∧ t.buf = s.buf

/-- The invariant holds right after reset. -/
def Obligations.InvariantHoldsAtReset : Prop := State.reset.Inv

/-- Every step keeps the invariant: PEND holds an opcode exactly while BUSY, KEYW agrees with KEY, SCHED_VALID with RK, and
a pending command has what its acceptance checked. -/
def Obligations.EveryStepKeepsTheInvariant : Prop :=
  ∀ s t : State, s.Inv → step s = .next t → t.Inv

/-- What an accepted KEYGEN, ENCB or DECB cannot meet (R84, R90: "cannot happen after acceptance"): in a state of the
invariant no pending KEYGEN lacks a key word and no pending ENCB or DECB a round key, and a pending NOP or KEYGEN is never
stuck by its completion. -/
def Obligations.AcceptedCommandsHaveTheirKeyAndSchedule : Prop :=
  ∀ s : State, s.Inv →
    (s.pend = some .keygen → ∀ j : Fin 4, s.key[j].isSome = true) ∧
    (s.pend = some .encb ∨ s.pend = some .decb → ∃ mk : Vector Word 4, s.rk = (schedule mk).map some) ∧
    (∀ t : State, step s = .next t → s.stuck = false → t.stuck = true →
      s.pend = some .encb ∨ s.pend = some .decb ∨ s.pend = some .sbox16)

/-- A command whose completion raised a model fault has no further step of the CORE (I13, P7): every step but a reset
leaves it pending and keeps its operands, with nothing from outside nothing changes but the turn, and a reset abandons it
(R119). That the outside's steps still have the effect of their rules is the model's reading (log entry 5). -/
def Obligations.StuckCommandNeverCompletes : Prop :=
  ∀ s t : State, s.busy = true → s.stuck = true → step s = .next t →
    ((∀ rest, s.inbox ≠ .reset :: rest) →
      t.busy = true ∧ t.stuck = true ∧ t.pend = s.pend ∧ t.key = s.key ∧ t.keyw = s.keyw ∧ t.rk = s.rk ∧ t.buf = s.buf ∧
        t.schedValid = s.schedValid ∧ t.err = s.err) ∧
    (s.inbox = [] → t = { s with turn := .host }) ∧
    (∀ rest, s.inbox = .reset :: rest → t.busy = false ∧ t.stuck = false ∧ t.pend = none ∧ t.statusWord = 0x00040000#32)
end

