-- ==== Sys2Proof/Laws/Decode.lean ====
section
/-! SUPPORT. The fields of a command word as numbers, and the cases of the decoder. -/

namespace Sys2Proof

theorem cmdOp_toNat (w : Word) : (cmdOp w).toNat = w.toNat % 16 := by
  simp [cmdOp, BitVec.extractLsb'_toNat]

theorem cmdRsv_toNat (w : Word) : (cmdRsv w).toNat = w.toNat / 16 % 4096 := by
  simp [cmdRsv, BitVec.extractLsb'_toNat, Nat.shiftRight_eq_div_pow]

theorem cmdLen_toNat (w : Word) : (cmdLen w).toNat = w.toNat / 65536 := by
  have := w.isLt
  simp only [cmdLen, BitVec.extractLsb'_toNat, Nat.shiftRight_eq_div_pow]
  omega

theorem cmdKey_toNat (w : Word) : (cmdKey w).toNat = w.toNat % 65536 := by
  simpa [cmdKey] using Nat.and_two_pow_sub_one_eq_mod w.toNat 16

theorem cmdWord_toNat (op : BitVec 4) (rsv : BitVec 12) (len : BitVec 16) :
    (cmdWord op rsv len).toNat = 65536 * len.toNat + 16 * rsv.toNat + op.toNat := by
  have ho := op.isLt
  have hr := rsv.isLt
  rw [cmdWord, BitVec.toNat_append, BitVec.toNat_append, ← Nat.shiftLeft_add_eq_or_of_lt ho,
    ← Nat.shiftLeft_add_eq_or_of_lt hr, Nat.shiftLeft_eq, Nat.shiftLeft_eq]
  omega

/-- The fields of a word assemble to the word. -/
theorem cmdWord_of_fields (w : Word) : cmdWord (cmdOp w) (cmdRsv w) (cmdLen w) = w := by
  apply BitVec.eq_of_toNat_eq
  rw [cmdWord_toNat, cmdOp_toNat, cmdRsv_toNat, cmdLen_toNat]
  omega

/-- A word has a row's match exactly when RSV is 0 and OP is the row's. -/
theorem cmdKey_eq_iff (w k : Word) (op : BitVec 4) (hk : k.toNat = op.toNat) :
    cmdKey w = k ↔ cmdRsv w = 0 ∧ cmdOp w = op := by
  have := op.isLt
  rw [← BitVec.toNat_inj, ← BitVec.toNat_inj, ← BitVec.toNat_inj, cmdKey_toNat, cmdRsv_toNat, cmdOp_toNat, hk]
  have h0 : (0 : BitVec 12).toNat = 0 := rfl
  omega

/-- Everything the decoder can answer (30_encoding.md R58). -/
theorem decode_cases (w : Word) :
    (cmdRsv w = 0 ∧ cmdOp w = 0x0#4 ∧ decode w = .nop (cmdLen w)) ∨
    (cmdRsv w = 0 ∧ cmdOp w = 0x1#4 ∧ decode w = .keygen (cmdLen w)) ∨
    (cmdRsv w = 0 ∧ cmdOp w = 0x2#4 ∧ decode w = .encb (cmdLen w)) ∨
    (cmdRsv w = 0 ∧ cmdOp w = 0x3#4 ∧ decode w = .decb (cmdLen w)) ∨
    (cmdRsv w = 0 ∧ cmdOp w = 0x4#4 ∧ decode w = .sbox16 (cmdLen w)) ∨
    ((5 ≤ (cmdOp w).toNat ∨ cmdRsv w ≠ 0) ∧ decode w = .reserved (cmdOp w) (cmdRsv w) (cmdLen w)) := by
  unfold decode
  split
  · rename_i h
    have := (cmdKey_eq_iff w 0x0#32 0x0#4 rfl).mp h
    exact .inl ⟨this.1, this.2, rfl⟩
  · split
    · rename_i h
      have := (cmdKey_eq_iff w 0x1#32 0x1#4 rfl).mp h
      exact .inr (.inl ⟨this.1, this.2, rfl⟩)
    · split
      · rename_i h
        have := (cmdKey_eq_iff w 0x2#32 0x2#4 rfl).mp h
        exact .inr (.inr (.inl ⟨this.1, this.2, rfl⟩))
      · split
        · rename_i h
          have := (cmdKey_eq_iff w 0x3#32 0x3#4 rfl).mp h
          exact .inr (.inr (.inr (.inl ⟨this.1, this.2, rfl⟩)))
        · split
          · rename_i h
            have := (cmdKey_eq_iff w 0x4#32 0x4#4 rfl).mp h
            exact .inr (.inr (.inr (.inr (.inl ⟨this.1, this.2, rfl⟩))))
          · rename_i h0 h1 h2 h3 h4
            refine .inr (.inr (.inr (.inr (.inr ⟨?_, rfl⟩))))
            rw [← BitVec.toNat_inj, cmdKey_toNat] at h0 h1 h2 h3 h4
            by_cases hr : cmdRsv w = 0
            · rw [← BitVec.toNat_inj, cmdRsv_toNat] at hr
              rw [cmdOp_toNat]
              simp only [BitVec.reduceToNat] at *
              left; omega
            · exact .inr hr

end Sys2Proof
end

