-- ==== Sys2Proof/Laws/Operands.lean ====
section
/-! SUPPORT. When a row of words holds numbers. -/

namespace Sys2Proof.Machine

/-- Words written as numbers read back as those numbers. -/
@[simp] theorem numbers_map_some {n : Nat} (v : Vector Word n) : numbers (v.map some) = some v := by
  have hall : (v.map some).all Option.isSome = true := by simp
  have hget : (v.map some).map (fun w => w.getD 0) = v := by ext i hi; simp
  simp only [numbers, hall, hget, if_true]

/-- A row of words reads as the numbers `x` exactly when it is `x`. -/
theorem numbers_eq_some_iff {n : Nat} {v : Vector (Option Word) n} {x : Vector Word n} :
    numbers v = some x ↔ v = x.map some := by
  constructor
  · intro h
    unfold numbers at h
    split at h
    · rename_i hall
      rw [Vector.all_eq_true] at hall
      cases h
      ext1 i hi
      obtain ⟨w, hw⟩ := Option.isSome_iff_exists.mp (hall i hi)
      simp [hw]
    · simp at h
  · rintro rfl
    exact numbers_map_some x

/-- A row of words does not read as numbers exactly when one of them is ⊥. -/
theorem numbers_eq_none_iff {n : Nat} {v : Vector (Option Word) n} :
    numbers v = none ↔ ∃ i : Fin n, v[i] = none := by
  unfold numbers
  constructor
  · intro h
    split at h
    · simp at h
    · rename_i hall
      rw [Vector.all_eq_true] at hall
      push Not at hall
      obtain ⟨i, hi, hn⟩ := hall
      exact ⟨⟨i, hi⟩, by simpa using hn⟩
  · rintro ⟨i, hi⟩
    have hall : ¬ v.all Option.isSome = true := by
      rw [Vector.all_eq_true]
      intro h
      have := h i i.2
      simp_all
    simp [hall]

end Sys2Proof.Machine
end

