-- ==== Sys2Proof/Laws/State.lean ====
section
/-! SUPPORT. What each named update of the state does to each field. -/

namespace Sys2Proof.Machine

variable (s : State)

/-! ### answer -/

@[simp] theorem answer_busy (r : Reply) : (s.answer r).busy = s.busy := rfl
@[simp] theorem answer_schedValid (r : Reply) : (s.answer r).schedValid = s.schedValid := rfl
@[simp] theorem answer_ovr (r : Reply) : (s.answer r).ovr = s.ovr := rfl
@[simp] theorem answer_keyw (r : Reply) : (s.answer r).keyw = s.keyw := rfl
@[simp] theorem answer_err (r : Reply) : (s.answer r).err = s.err := rfl
@[simp] theorem answer_key (r : Reply) : (s.answer r).key = s.key := rfl
@[simp] theorem answer_rk (r : Reply) : (s.answer r).rk = s.rk := rfl
@[simp] theorem answer_buf (r : Reply) : (s.answer r).buf = s.buf := rfl
@[simp] theorem answer_pend (r : Reply) : (s.answer r).pend = s.pend := rfl
@[simp] theorem answer_faults (r : Reply) : (s.answer r).faults = s.faults := rfl
@[simp] theorem answer_stuck (r : Reply) : (s.answer r).stuck = s.stuck := rfl
@[simp] theorem answer_reply (r : Reply) : (s.answer r).reply = some r := rfl
@[simp] theorem answer_inbox (r : Reply) : (s.answer r).inbox = s.inbox := rfl
@[simp] theorem answer_turn (r : Reply) : (s.answer r).turn = s.turn := rfl
@[simp] theorem answer_waited (r : Reply) : (s.answer r).waited = s.waited := rfl
@[simp] theorem answer_accepted (r : Reply) : (s.answer r).accepted = s.accepted := rfl

/-! ### record -/

@[simp] theorem record_busy (e : FaultEvent) : (s.record e).busy = s.busy := rfl
@[simp] theorem record_schedValid (e : FaultEvent) : (s.record e).schedValid = s.schedValid := rfl
@[simp] theorem record_ovr (e : FaultEvent) : (s.record e).ovr = s.ovr := rfl
@[simp] theorem record_keyw (e : FaultEvent) : (s.record e).keyw = s.keyw := rfl
@[simp] theorem record_err (e : FaultEvent) : (s.record e).err = s.err := rfl
@[simp] theorem record_key (e : FaultEvent) : (s.record e).key = s.key := rfl
@[simp] theorem record_rk (e : FaultEvent) : (s.record e).rk = s.rk := rfl
@[simp] theorem record_buf (e : FaultEvent) : (s.record e).buf = s.buf := rfl
@[simp] theorem record_pend (e : FaultEvent) : (s.record e).pend = s.pend := rfl
@[simp] theorem record_faults (e : FaultEvent) : (s.record e).faults = s.faults ++ [e] := rfl
@[simp] theorem record_stuck (e : FaultEvent) : (s.record e).stuck = s.stuck := rfl
@[simp] theorem record_reply (e : FaultEvent) : (s.record e).reply = s.reply := rfl
@[simp] theorem record_inbox (e : FaultEvent) : (s.record e).inbox = s.inbox := rfl
@[simp] theorem record_turn (e : FaultEvent) : (s.record e).turn = s.turn := rfl
@[simp] theorem record_waited (e : FaultEvent) : (s.record e).waited = s.waited := rfl
@[simp] theorem record_accepted (e : FaultEvent) : (s.record e).accepted = s.accepted := rfl

/-! ### raiseBus -/

@[simp] theorem raiseBus_busy (b : BusReason) (a : HostAccess) : (s.raiseBus b a).busy = s.busy := rfl
@[simp] theorem raiseBus_schedValid (b : BusReason) (a : HostAccess) : (s.raiseBus b a).schedValid = s.schedValid := rfl
@[simp] theorem raiseBus_ovr (b : BusReason) (a : HostAccess) : (s.raiseBus b a).ovr = s.ovr := rfl
@[simp] theorem raiseBus_keyw (b : BusReason) (a : HostAccess) : (s.raiseBus b a).keyw = s.keyw := rfl
@[simp] theorem raiseBus_err (b : BusReason) (a : HostAccess) : (s.raiseBus b a).err = s.err := rfl
@[simp] theorem raiseBus_key (b : BusReason) (a : HostAccess) : (s.raiseBus b a).key = s.key := rfl
@[simp] theorem raiseBus_rk (b : BusReason) (a : HostAccess) : (s.raiseBus b a).rk = s.rk := rfl
@[simp] theorem raiseBus_buf (b : BusReason) (a : HostAccess) : (s.raiseBus b a).buf = s.buf := rfl
@[simp] theorem raiseBus_pend (b : BusReason) (a : HostAccess) : (s.raiseBus b a).pend = s.pend := rfl
@[simp] theorem raiseBus_faults (b : BusReason) (a : HostAccess) : (s.raiseBus b a).faults = s.faults ++ [.busError b a] := rfl
@[simp] theorem raiseBus_stuck (b : BusReason) (a : HostAccess) : (s.raiseBus b a).stuck = s.stuck := rfl
@[simp] theorem raiseBus_reply (b : BusReason) (a : HostAccess) : (s.raiseBus b a).reply = some .error := rfl
@[simp] theorem raiseBus_inbox (b : BusReason) (a : HostAccess) : (s.raiseBus b a).inbox = s.inbox := rfl
@[simp] theorem raiseBus_turn (b : BusReason) (a : HostAccess) : (s.raiseBus b a).turn = s.turn := rfl
@[simp] theorem raiseBus_waited (b : BusReason) (a : HostAccess) : (s.raiseBus b a).waited = s.waited := rfl
@[simp] theorem raiseBus_accepted (b : BusReason) (a : HostAccess) : (s.raiseBus b a).accepted = s.accepted := rfl

/-! ### raiseNoValueRead -/

@[simp] theorem raiseNoValueRead_busy (a : HostAccess) : (s.raiseNoValueRead a).busy = s.busy := rfl
@[simp] theorem raiseNoValueRead_schedValid (a : HostAccess) : (s.raiseNoValueRead a).schedValid = s.schedValid := rfl
@[simp] theorem raiseNoValueRead_ovr (a : HostAccess) : (s.raiseNoValueRead a).ovr = s.ovr := rfl
@[simp] theorem raiseNoValueRead_keyw (a : HostAccess) : (s.raiseNoValueRead a).keyw = s.keyw := rfl
@[simp] theorem raiseNoValueRead_err (a : HostAccess) : (s.raiseNoValueRead a).err = s.err := rfl
@[simp] theorem raiseNoValueRead_key (a : HostAccess) : (s.raiseNoValueRead a).key = s.key := rfl
@[simp] theorem raiseNoValueRead_rk (a : HostAccess) : (s.raiseNoValueRead a).rk = s.rk := rfl
@[simp] theorem raiseNoValueRead_buf (a : HostAccess) : (s.raiseNoValueRead a).buf = s.buf := rfl
@[simp] theorem raiseNoValueRead_pend (a : HostAccess) : (s.raiseNoValueRead a).pend = s.pend := rfl
@[simp] theorem raiseNoValueRead_faults (a : HostAccess) : (s.raiseNoValueRead a).faults = s.faults ++ [.noValueRead a] := rfl
@[simp] theorem raiseNoValueRead_stuck (a : HostAccess) : (s.raiseNoValueRead a).stuck = s.stuck := rfl
@[simp] theorem raiseNoValueRead_reply (a : HostAccess) : (s.raiseNoValueRead a).reply = some .noValue := rfl
@[simp] theorem raiseNoValueRead_inbox (a : HostAccess) : (s.raiseNoValueRead a).inbox = s.inbox := rfl
@[simp] theorem raiseNoValueRead_turn (a : HostAccess) : (s.raiseNoValueRead a).turn = s.turn := rfl
@[simp] theorem raiseNoValueRead_waited (a : HostAccess) : (s.raiseNoValueRead a).waited = s.waited := rfl
@[simp] theorem raiseNoValueRead_accepted (a : HostAccess) : (s.raiseNoValueRead a).accepted = s.accepted := rfl

/-! ### raiseNoValueCompletion -/

@[simp] theorem raiseNoValueCompletion_busy (op : Op) : (s.raiseNoValueCompletion op).busy = s.busy := rfl
@[simp] theorem raiseNoValueCompletion_schedValid (op : Op) : (s.raiseNoValueCompletion op).schedValid = s.schedValid := rfl
@[simp] theorem raiseNoValueCompletion_ovr (op : Op) : (s.raiseNoValueCompletion op).ovr = s.ovr := rfl
@[simp] theorem raiseNoValueCompletion_keyw (op : Op) : (s.raiseNoValueCompletion op).keyw = s.keyw := rfl
@[simp] theorem raiseNoValueCompletion_err (op : Op) : (s.raiseNoValueCompletion op).err = s.err := rfl
@[simp] theorem raiseNoValueCompletion_key (op : Op) : (s.raiseNoValueCompletion op).key = s.key := rfl
@[simp] theorem raiseNoValueCompletion_rk (op : Op) : (s.raiseNoValueCompletion op).rk = s.rk := rfl
@[simp] theorem raiseNoValueCompletion_buf (op : Op) : (s.raiseNoValueCompletion op).buf = s.buf := rfl
@[simp] theorem raiseNoValueCompletion_pend (op : Op) : (s.raiseNoValueCompletion op).pend = s.pend := rfl
@[simp] theorem raiseNoValueCompletion_faults (op : Op) : (s.raiseNoValueCompletion op).faults = s.faults ++ [.noValueCompletion op] := rfl
@[simp] theorem raiseNoValueCompletion_stuck (op : Op) : (s.raiseNoValueCompletion op).stuck = true := rfl
@[simp] theorem raiseNoValueCompletion_reply (op : Op) : (s.raiseNoValueCompletion op).reply = s.reply := rfl
@[simp] theorem raiseNoValueCompletion_inbox (op : Op) : (s.raiseNoValueCompletion op).inbox = s.inbox := rfl
@[simp] theorem raiseNoValueCompletion_turn (op : Op) : (s.raiseNoValueCompletion op).turn = s.turn := rfl
@[simp] theorem raiseNoValueCompletion_waited (op : Op) : (s.raiseNoValueCompletion op).waited = s.waited := rfl
@[simp] theorem raiseNoValueCompletion_accepted (op : Op) : (s.raiseNoValueCompletion op).accepted = s.accepted := rfl

/-! ### overrun -/

@[simp] theorem overrun_busy : (s.overrun).busy = s.busy := rfl
@[simp] theorem overrun_schedValid : (s.overrun).schedValid = s.schedValid := rfl
@[simp] theorem overrun_ovr : (s.overrun).ovr = true := rfl
@[simp] theorem overrun_keyw : (s.overrun).keyw = s.keyw := rfl
@[simp] theorem overrun_err : (s.overrun).err = s.err := rfl
@[simp] theorem overrun_key : (s.overrun).key = s.key := rfl
@[simp] theorem overrun_rk : (s.overrun).rk = s.rk := rfl
@[simp] theorem overrun_buf : (s.overrun).buf = s.buf := rfl
@[simp] theorem overrun_pend : (s.overrun).pend = s.pend := rfl
@[simp] theorem overrun_faults : (s.overrun).faults = s.faults := rfl
@[simp] theorem overrun_stuck : (s.overrun).stuck = s.stuck := rfl
@[simp] theorem overrun_reply : (s.overrun).reply = s.reply := rfl
@[simp] theorem overrun_inbox : (s.overrun).inbox = s.inbox := rfl
@[simp] theorem overrun_turn : (s.overrun).turn = s.turn := rfl
@[simp] theorem overrun_waited : (s.overrun).waited = s.waited := rfl
@[simp] theorem overrun_accepted : (s.overrun).accepted = s.accepted := rfl

/-! ### reject -/

@[simp] theorem reject_busy (e : ErrCode) : (s.reject e).busy = s.busy := rfl
@[simp] theorem reject_schedValid (e : ErrCode) : (s.reject e).schedValid = s.schedValid := rfl
@[simp] theorem reject_ovr (e : ErrCode) : (s.reject e).ovr = false := rfl
@[simp] theorem reject_keyw (e : ErrCode) : (s.reject e).keyw = s.keyw := rfl
@[simp] theorem reject_err (e : ErrCode) : (s.reject e).err = e := rfl
@[simp] theorem reject_key (e : ErrCode) : (s.reject e).key = s.key := rfl
@[simp] theorem reject_rk (e : ErrCode) : (s.reject e).rk = s.rk := rfl
@[simp] theorem reject_buf (e : ErrCode) : (s.reject e).buf = s.buf := rfl
@[simp] theorem reject_pend (e : ErrCode) : (s.reject e).pend = s.pend := rfl
@[simp] theorem reject_faults (e : ErrCode) : (s.reject e).faults = s.faults := rfl
@[simp] theorem reject_stuck (e : ErrCode) : (s.reject e).stuck = s.stuck := rfl
@[simp] theorem reject_reply (e : ErrCode) : (s.reject e).reply = s.reply := rfl
@[simp] theorem reject_inbox (e : ErrCode) : (s.reject e).inbox = s.inbox := rfl
@[simp] theorem reject_turn (e : ErrCode) : (s.reject e).turn = s.turn := rfl
@[simp] theorem reject_waited (e : ErrCode) : (s.reject e).waited = s.waited := rfl
@[simp] theorem reject_accepted (e : ErrCode) : (s.reject e).accepted = s.accepted := rfl

/-! ### accept -/

@[simp] theorem accept_busy (op : Op) : (s.accept op).busy = true := rfl
@[simp] theorem accept_schedValid (op : Op) : (s.accept op).schedValid = s.schedValid := rfl
@[simp] theorem accept_ovr (op : Op) : (s.accept op).ovr = false := rfl
@[simp] theorem accept_keyw (op : Op) : (s.accept op).keyw = s.keyw := rfl
@[simp] theorem accept_err (op : Op) : (s.accept op).err = .ok := rfl
@[simp] theorem accept_key (op : Op) : (s.accept op).key = s.key := rfl
@[simp] theorem accept_rk (op : Op) : (s.accept op).rk = s.rk := rfl
@[simp] theorem accept_buf (op : Op) : (s.accept op).buf = s.buf := rfl
@[simp] theorem accept_pend (op : Op) : (s.accept op).pend = some op := rfl
@[simp] theorem accept_faults (op : Op) : (s.accept op).faults = s.faults := rfl
@[simp] theorem accept_stuck (op : Op) : (s.accept op).stuck = s.stuck := rfl
@[simp] theorem accept_reply (op : Op) : (s.accept op).reply = s.reply := rfl
@[simp] theorem accept_inbox (op : Op) : (s.accept op).inbox = s.inbox := rfl
@[simp] theorem accept_turn (op : Op) : (s.accept op).turn = s.turn := rfl
@[simp] theorem accept_waited (op : Op) : (s.accept op).waited = 0 := rfl
@[simp] theorem accept_accepted (op : Op) : (s.accept op).accepted = s.accepted + 1 := rfl

/-! ### retire -/

@[simp] theorem retire_busy : (s.retire).busy = false := rfl
@[simp] theorem retire_schedValid : (s.retire).schedValid = s.schedValid := rfl
@[simp] theorem retire_ovr : (s.retire).ovr = s.ovr := rfl
@[simp] theorem retire_keyw : (s.retire).keyw = s.keyw := rfl
@[simp] theorem retire_err : (s.retire).err = s.err := rfl
@[simp] theorem retire_key : (s.retire).key = s.key := rfl
@[simp] theorem retire_rk : (s.retire).rk = s.rk := rfl
@[simp] theorem retire_buf : (s.retire).buf = s.buf := rfl
@[simp] theorem retire_pend : (s.retire).pend = none := rfl
@[simp] theorem retire_faults : (s.retire).faults = s.faults := rfl
@[simp] theorem retire_stuck : (s.retire).stuck = s.stuck := rfl
@[simp] theorem retire_reply : (s.retire).reply = s.reply := rfl
@[simp] theorem retire_inbox : (s.retire).inbox = s.inbox := rfl
@[simp] theorem retire_turn : (s.retire).turn = s.turn := rfl
@[simp] theorem retire_waited : (s.retire).waited = s.waited := rfl
@[simp] theorem retire_accepted : (s.retire).accepted = s.accepted := rfl

/-! ### storeKey -/

@[simp] theorem storeKey_busy (j : Fin 4) (v : Word) : (s.storeKey j v).busy = s.busy := rfl
@[simp] theorem storeKey_schedValid (j : Fin 4) (v : Word) : (s.storeKey j v).schedValid = s.schedValid := rfl
@[simp] theorem storeKey_ovr (j : Fin 4) (v : Word) : (s.storeKey j v).ovr = s.ovr := rfl
@[simp] theorem storeKey_keyw (j : Fin 4) (v : Word) : (s.storeKey j v).keyw = keywWith s.keyw j := rfl
@[simp] theorem storeKey_err (j : Fin 4) (v : Word) : (s.storeKey j v).err = s.err := rfl
@[simp] theorem storeKey_key (j : Fin 4) (v : Word) : (s.storeKey j v).key = s.key.set j (some v) := rfl
@[simp] theorem storeKey_rk (j : Fin 4) (v : Word) : (s.storeKey j v).rk = s.rk := rfl
@[simp] theorem storeKey_buf (j : Fin 4) (v : Word) : (s.storeKey j v).buf = s.buf := rfl
@[simp] theorem storeKey_pend (j : Fin 4) (v : Word) : (s.storeKey j v).pend = s.pend := rfl
@[simp] theorem storeKey_faults (j : Fin 4) (v : Word) : (s.storeKey j v).faults = s.faults := rfl
@[simp] theorem storeKey_stuck (j : Fin 4) (v : Word) : (s.storeKey j v).stuck = s.stuck := rfl
@[simp] theorem storeKey_reply (j : Fin 4) (v : Word) : (s.storeKey j v).reply = s.reply := rfl
@[simp] theorem storeKey_inbox (j : Fin 4) (v : Word) : (s.storeKey j v).inbox = s.inbox := rfl
@[simp] theorem storeKey_turn (j : Fin 4) (v : Word) : (s.storeKey j v).turn = s.turn := rfl
@[simp] theorem storeKey_waited (j : Fin 4) (v : Word) : (s.storeKey j v).waited = s.waited := rfl
@[simp] theorem storeKey_accepted (j : Fin 4) (v : Word) : (s.storeKey j v).accepted = s.accepted := rfl

/-! ### storeBuf -/

@[simp] theorem storeBuf_busy (w : Fin (4 * Config.nb)) (v : Word) : (s.storeBuf w v).busy = s.busy := rfl
@[simp] theorem storeBuf_schedValid (w : Fin (4 * Config.nb)) (v : Word) : (s.storeBuf w v).schedValid = s.schedValid := rfl
@[simp] theorem storeBuf_ovr (w : Fin (4 * Config.nb)) (v : Word) : (s.storeBuf w v).ovr = s.ovr := rfl
@[simp] theorem storeBuf_keyw (w : Fin (4 * Config.nb)) (v : Word) : (s.storeBuf w v).keyw = s.keyw := rfl
@[simp] theorem storeBuf_err (w : Fin (4 * Config.nb)) (v : Word) : (s.storeBuf w v).err = s.err := rfl
@[simp] theorem storeBuf_key (w : Fin (4 * Config.nb)) (v : Word) : (s.storeBuf w v).key = s.key := rfl
@[simp] theorem storeBuf_rk (w : Fin (4 * Config.nb)) (v : Word) : (s.storeBuf w v).rk = s.rk := rfl
@[simp] theorem storeBuf_buf (w : Fin (4 * Config.nb)) (v : Word) : (s.storeBuf w v).buf = s.buf.set w (some v) := rfl
@[simp] theorem storeBuf_pend (w : Fin (4 * Config.nb)) (v : Word) : (s.storeBuf w v).pend = s.pend := rfl
@[simp] theorem storeBuf_faults (w : Fin (4 * Config.nb)) (v : Word) : (s.storeBuf w v).faults = s.faults := rfl
@[simp] theorem storeBuf_stuck (w : Fin (4 * Config.nb)) (v : Word) : (s.storeBuf w v).stuck = s.stuck := rfl
@[simp] theorem storeBuf_reply (w : Fin (4 * Config.nb)) (v : Word) : (s.storeBuf w v).reply = s.reply := rfl
@[simp] theorem storeBuf_inbox (w : Fin (4 * Config.nb)) (v : Word) : (s.storeBuf w v).inbox = s.inbox := rfl
@[simp] theorem storeBuf_turn (w : Fin (4 * Config.nb)) (v : Word) : (s.storeBuf w v).turn = s.turn := rfl
@[simp] theorem storeBuf_waited (w : Fin (4 * Config.nb)) (v : Word) : (s.storeBuf w v).waited = s.waited := rfl
@[simp] theorem storeBuf_accepted (w : Fin (4 * Config.nb)) (v : Word) : (s.storeBuf w v).accepted = s.accepted := rfl

/-! ### installSchedule -/

@[simp] theorem installSchedule_busy (rk : Vector Word 32) : (s.installSchedule rk).busy = s.busy := rfl
@[simp] theorem installSchedule_schedValid (rk : Vector Word 32) : (s.installSchedule rk).schedValid = true := rfl
@[simp] theorem installSchedule_ovr (rk : Vector Word 32) : (s.installSchedule rk).ovr = s.ovr := rfl
@[simp] theorem installSchedule_keyw (rk : Vector Word 32) : (s.installSchedule rk).keyw = 0b0000#4 := rfl
@[simp] theorem installSchedule_err (rk : Vector Word 32) : (s.installSchedule rk).err = s.err := rfl
@[simp] theorem installSchedule_key (rk : Vector Word 32) : (s.installSchedule rk).key = Vector.replicate 4 none := rfl
@[simp] theorem installSchedule_rk (rk : Vector Word 32) : (s.installSchedule rk).rk = rk.map some := rfl
@[simp] theorem installSchedule_buf (rk : Vector Word 32) : (s.installSchedule rk).buf = s.buf := rfl
@[simp] theorem installSchedule_pend (rk : Vector Word 32) : (s.installSchedule rk).pend = s.pend := rfl
@[simp] theorem installSchedule_faults (rk : Vector Word 32) : (s.installSchedule rk).faults = s.faults := rfl
@[simp] theorem installSchedule_stuck (rk : Vector Word 32) : (s.installSchedule rk).stuck = s.stuck := rfl
@[simp] theorem installSchedule_reply (rk : Vector Word 32) : (s.installSchedule rk).reply = s.reply := rfl
@[simp] theorem installSchedule_inbox (rk : Vector Word 32) : (s.installSchedule rk).inbox = s.inbox := rfl
@[simp] theorem installSchedule_turn (rk : Vector Word 32) : (s.installSchedule rk).turn = s.turn := rfl
@[simp] theorem installSchedule_waited (rk : Vector Word 32) : (s.installSchedule rk).waited = s.waited := rfl
@[simp] theorem installSchedule_accepted (rk : Vector Word 32) : (s.installSchedule rk).accepted = s.accepted := rfl

/-! ### installBatch -/

@[simp] theorem installBatch_busy (b : Vector Word (4 * Config.nb)) : (s.installBatch b).busy = s.busy := rfl
@[simp] theorem installBatch_schedValid (b : Vector Word (4 * Config.nb)) : (s.installBatch b).schedValid = s.schedValid := rfl
@[simp] theorem installBatch_ovr (b : Vector Word (4 * Config.nb)) : (s.installBatch b).ovr = s.ovr := rfl
@[simp] theorem installBatch_keyw (b : Vector Word (4 * Config.nb)) : (s.installBatch b).keyw = s.keyw := rfl
@[simp] theorem installBatch_err (b : Vector Word (4 * Config.nb)) : (s.installBatch b).err = s.err := rfl
@[simp] theorem installBatch_key (b : Vector Word (4 * Config.nb)) : (s.installBatch b).key = s.key := rfl
@[simp] theorem installBatch_rk (b : Vector Word (4 * Config.nb)) : (s.installBatch b).rk = s.rk := rfl
@[simp] theorem installBatch_buf (b : Vector Word (4 * Config.nb)) : (s.installBatch b).buf = b.map some := rfl
@[simp] theorem installBatch_pend (b : Vector Word (4 * Config.nb)) : (s.installBatch b).pend = s.pend := rfl
@[simp] theorem installBatch_faults (b : Vector Word (4 * Config.nb)) : (s.installBatch b).faults = s.faults := rfl
@[simp] theorem installBatch_stuck (b : Vector Word (4 * Config.nb)) : (s.installBatch b).stuck = s.stuck := rfl
@[simp] theorem installBatch_reply (b : Vector Word (4 * Config.nb)) : (s.installBatch b).reply = s.reply := rfl
@[simp] theorem installBatch_inbox (b : Vector Word (4 * Config.nb)) : (s.installBatch b).inbox = s.inbox := rfl
@[simp] theorem installBatch_turn (b : Vector Word (4 * Config.nb)) : (s.installBatch b).turn = s.turn := rfl
@[simp] theorem installBatch_waited (b : Vector Word (4 * Config.nb)) : (s.installBatch b).waited = s.waited := rfl
@[simp] theorem installBatch_accepted (b : Vector Word (4 * Config.nb)) : (s.installBatch b).accepted = s.accepted := rfl

/-! ### installFirst -/

@[simp] theorem installFirst_busy (v : Vector Word 4) : (s.installFirst v).busy = s.busy := rfl
@[simp] theorem installFirst_schedValid (v : Vector Word 4) : (s.installFirst v).schedValid = s.schedValid := rfl
@[simp] theorem installFirst_ovr (v : Vector Word 4) : (s.installFirst v).ovr = s.ovr := rfl
@[simp] theorem installFirst_keyw (v : Vector Word 4) : (s.installFirst v).keyw = s.keyw := rfl
@[simp] theorem installFirst_err (v : Vector Word 4) : (s.installFirst v).err = s.err := rfl
@[simp] theorem installFirst_key (v : Vector Word 4) : (s.installFirst v).key = s.key := rfl
@[simp] theorem installFirst_rk (v : Vector Word 4) : (s.installFirst v).rk = s.rk := rfl
@[simp] theorem installFirst_buf (v : Vector Word 4) : (s.installFirst v).buf = Vector.ofFn fun w => if h : w.val < 4 then some v[w.val] else s.buf[w] := rfl
@[simp] theorem installFirst_pend (v : Vector Word 4) : (s.installFirst v).pend = s.pend := rfl
@[simp] theorem installFirst_faults (v : Vector Word 4) : (s.installFirst v).faults = s.faults := rfl
@[simp] theorem installFirst_stuck (v : Vector Word 4) : (s.installFirst v).stuck = s.stuck := rfl
@[simp] theorem installFirst_reply (v : Vector Word 4) : (s.installFirst v).reply = s.reply := rfl
@[simp] theorem installFirst_inbox (v : Vector Word 4) : (s.installFirst v).inbox = s.inbox := rfl
@[simp] theorem installFirst_turn (v : Vector Word 4) : (s.installFirst v).turn = s.turn := rfl
@[simp] theorem installFirst_waited (v : Vector Word 4) : (s.installFirst v).waited = s.waited := rfl
@[simp] theorem installFirst_accepted (v : Vector Word 4) : (s.installFirst v).accepted = s.accepted := rfl

/-! ### pop -/

@[simp] theorem pop_busy (rest : List Event) : (s.pop rest).busy = s.busy := rfl
@[simp] theorem pop_schedValid (rest : List Event) : (s.pop rest).schedValid = s.schedValid := rfl
@[simp] theorem pop_ovr (rest : List Event) : (s.pop rest).ovr = s.ovr := rfl
@[simp] theorem pop_keyw (rest : List Event) : (s.pop rest).keyw = s.keyw := rfl
@[simp] theorem pop_err (rest : List Event) : (s.pop rest).err = s.err := rfl
@[simp] theorem pop_key (rest : List Event) : (s.pop rest).key = s.key := rfl
@[simp] theorem pop_rk (rest : List Event) : (s.pop rest).rk = s.rk := rfl
@[simp] theorem pop_buf (rest : List Event) : (s.pop rest).buf = s.buf := rfl
@[simp] theorem pop_pend (rest : List Event) : (s.pop rest).pend = s.pend := rfl
@[simp] theorem pop_faults (rest : List Event) : (s.pop rest).faults = s.faults := rfl
@[simp] theorem pop_stuck (rest : List Event) : (s.pop rest).stuck = s.stuck := rfl
@[simp] theorem pop_reply (rest : List Event) : (s.pop rest).reply = s.reply := rfl
@[simp] theorem pop_inbox (rest : List Event) : (s.pop rest).inbox = rest := rfl
@[simp] theorem pop_turn (rest : List Event) : (s.pop rest).turn = .host := rfl
@[simp] theorem pop_waited (rest : List Event) : (s.pop rest).waited = s.waited + 1 := rfl
@[simp] theorem pop_accepted (rest : List Event) : (s.pop rest).accepted = s.accepted := rfl

/-! ### arbitrate -/

@[simp] theorem arbitrate_busy : (s.arbitrate).busy = s.busy := rfl
@[simp] theorem arbitrate_schedValid : (s.arbitrate).schedValid = s.schedValid := rfl
@[simp] theorem arbitrate_ovr : (s.arbitrate).ovr = s.ovr := rfl
@[simp] theorem arbitrate_keyw : (s.arbitrate).keyw = s.keyw := rfl
@[simp] theorem arbitrate_err : (s.arbitrate).err = s.err := rfl
@[simp] theorem arbitrate_key : (s.arbitrate).key = s.key := rfl
@[simp] theorem arbitrate_rk : (s.arbitrate).rk = s.rk := rfl
@[simp] theorem arbitrate_buf : (s.arbitrate).buf = s.buf := rfl
@[simp] theorem arbitrate_pend : (s.arbitrate).pend = s.pend := rfl
@[simp] theorem arbitrate_faults : (s.arbitrate).faults = s.faults := rfl
@[simp] theorem arbitrate_stuck : (s.arbitrate).stuck = s.stuck := rfl
@[simp] theorem arbitrate_reply : (s.arbitrate).reply = s.reply := rfl
@[simp] theorem arbitrate_inbox : (s.arbitrate).inbox = s.inbox := rfl
@[simp] theorem arbitrate_turn : (s.arbitrate).turn = s.nextTurn := rfl
@[simp] theorem arbitrate_waited : (s.arbitrate).waited = s.waited := rfl
@[simp] theorem arbitrate_accepted : (s.arbitrate).accepted = s.accepted := rfl

/-! ### presentWord -/

@[simp] theorem presentWord_busy (v : Word) : (s.presentWord v).busy = s.busy := rfl
@[simp] theorem presentWord_schedValid (v : Word) : (s.presentWord v).schedValid = s.schedValid := rfl
@[simp] theorem presentWord_ovr (v : Word) : (s.presentWord v).ovr = s.ovr := rfl
@[simp] theorem presentWord_keyw (v : Word) : (s.presentWord v).keyw = s.keyw := rfl
@[simp] theorem presentWord_err (v : Word) : (s.presentWord v).err = s.err := rfl
@[simp] theorem presentWord_key (v : Word) : (s.presentWord v).key = s.key := rfl
@[simp] theorem presentWord_rk (v : Word) : (s.presentWord v).rk = s.rk := rfl
@[simp] theorem presentWord_buf (v : Word) : (s.presentWord v).buf = s.buf := rfl
@[simp] theorem presentWord_pend (v : Word) : (s.presentWord v).pend = s.pend := rfl
@[simp] theorem presentWord_faults (v : Word) : (s.presentWord v).faults = s.faults := rfl
@[simp] theorem presentWord_stuck (v : Word) : (s.presentWord v).stuck = s.stuck := rfl
@[simp] theorem presentWord_reply (v : Word) : (s.presentWord v).reply = s.reply := rfl
@[simp] theorem presentWord_inbox (v : Word) : (s.presentWord v).inbox = .access (.write 4 0x000#12 v) :: s.inbox := rfl
@[simp] theorem presentWord_turn (v : Word) : (s.presentWord v).turn = .host := rfl
@[simp] theorem presentWord_waited (v : Word) : (s.presentWord v).waited = s.waited := rfl
@[simp] theorem presentWord_accepted (v : Word) : (s.presentWord v).accepted = s.accepted := rfl

/-! ### applyReset -/

@[simp] theorem applyReset_busy : s.applyReset.busy = false := rfl
@[simp] theorem applyReset_schedValid : s.applyReset.schedValid = false := rfl
@[simp] theorem applyReset_ovr : s.applyReset.ovr = false := rfl
@[simp] theorem applyReset_keyw : s.applyReset.keyw = 0b0000#4 := rfl
@[simp] theorem applyReset_err : s.applyReset.err = .ok := rfl
@[simp] theorem applyReset_key : s.applyReset.key = Vector.replicate 4 none := rfl
@[simp] theorem applyReset_rk : s.applyReset.rk = Vector.replicate 32 none := rfl
@[simp] theorem applyReset_buf : s.applyReset.buf = Vector.replicate (4 * Config.nb) none := rfl
@[simp] theorem applyReset_pend : s.applyReset.pend = none := rfl
@[simp] theorem applyReset_faults : s.applyReset.faults = s.faults := rfl
@[simp] theorem applyReset_stuck : s.applyReset.stuck = false := rfl
@[simp] theorem applyReset_reply : s.applyReset.reply = none := rfl
@[simp] theorem applyReset_inbox : s.applyReset.inbox = s.inbox := rfl
@[simp] theorem applyReset_turn : s.applyReset.turn = .host := rfl
@[simp] theorem applyReset_waited : s.applyReset.waited = 0 := rfl
@[simp] theorem applyReset_accepted : s.applyReset.accepted = s.accepted := rfl

/-! ### the next agent -/

/-- The choice of the next agent does not look at who moved last. -/
@[simp] theorem nextTurn_arbitrate : s.arbitrate.nextTurn = s.nextTurn := rfl

/-- With no command pending the host moves. -/
theorem nextTurn_of_not_busy {s : State} (h : s.busy = false) : s.nextTurn = .host := by
  simp [State.nextTurn, h]

/-- With a stuck command pending the host moves (I13). -/
theorem nextTurn_of_stuck {s : State} (h : s.stuck = true) : s.nextTurn = .host := by
  simp [State.nextTurn, h]

/-- The CORE is chosen only while a command is pending. -/
theorem busy_of_nextTurn_core {s : State} (h : s.nextTurn = .core) : s.busy = true := by
  cases hb : s.busy with
  | true => rfl
  | false => simp [nextTurn_of_not_busy hb] at h

/-! ### the CORE's part -/

/-- Updates of the model's own fields leave the CORE's part alone. -/
@[simp] theorem coreRegs_answer (r : Reply) : (s.answer r).coreRegs = s.coreRegs := rfl
@[simp] theorem coreRegs_record (e : FaultEvent) : (s.record e).coreRegs = s.coreRegs := rfl
@[simp] theorem coreRegs_raiseBus (b : BusReason) (a : HostAccess) : (s.raiseBus b a).coreRegs = s.coreRegs := rfl
@[simp] theorem coreRegs_raiseNoValueRead (a : HostAccess) : (s.raiseNoValueRead a).coreRegs = s.coreRegs := rfl
@[simp] theorem coreRegs_raiseNoValueCompletion (op : Op) : (s.raiseNoValueCompletion op).coreRegs = s.coreRegs := rfl
@[simp] theorem coreRegs_pop (rest : List Event) : (s.pop rest).coreRegs = s.coreRegs := rfl
@[simp] theorem coreRegs_arbitrate : s.arbitrate.coreRegs = s.coreRegs := rfl

end Sys2Proof.Machine
end

