-- ==== Sys2Proof/Laws/Window.lean ====
section
/-! SUPPORT. The window map in one lemma each way: which register an access meets, and where a register is. -/

namespace Sys2Proof.Machine

/-- A word index says where in its range the offset lies. -/
theorem wordIndex_eq_some {base n off : Nat} {k : Fin n} (h : wordIndex base n off = some k) :
    base ≤ off ∧ (off - base) / 4 = k.val := by
  unfold wordIndex at h
  split at h
  · rename_i hc
    cases h
    exact ⟨hc.1, rfl⟩
  · simp at h

/-- An offset that is a multiple of 4 and maps to a register is that register's offset. -/
theorem offsetOf_of_regAt {off : Nat} {r : WindowReg} (h4 : off % 4 = 0) (h : regAt off = some r) : off = offsetOf r := by
  unfold regAt at h
  split at h
  · cases h; assumption
  · split at h
    · cases h; assumption
    · split at h
      · rename_i hj
        cases h
        have := wordIndex_eq_some hj
        simp only [offsetOf]; omega
      · rename_i hj
        cases h
        have := wordIndex_eq_some hj
        simp only [offsetOf]; omega
      · rename_i hj
        cases h
        have := wordIndex_eq_some hj
        simp only [offsetOf]; omega
      · cases h

/-- Each register is found at its offset. -/
theorem regAt_offsetOf (r : WindowReg) : regAt (offsetOf r) = some r := by
  cases r with
  | cmd => rfl
  | status => rfl
  | key j => revert j; decide
  | rk i => revert i; decide
  | buf w => revert w; decide

/-- The offsets of the registers are word offsets of the window. -/
theorem offsetOf_bounds (r : WindowReg) : offsetOf r < 4096 ∧ offsetOf r % 4 = 0 := by
  have hb : ∀ w : Fin (4 * Config.nb), w.val < 16 := fun w => w.isLt
  cases r with
  | cmd => decide
  | status => decide
  | key j => simp only [offsetOf]; omega
  | rk i => simp only [offsetOf]; omega
  | buf w => have := hb w; simp only [offsetOf]; omega

/-- The checks of an access that meets a register: 32 bits, at that register's offset. -/
theorem locate_eq_ok_iff {size : Nat} {off : Offset} {r : WindowReg} :
    locate size off = .ok r ↔ size = 4 ∧ off.toNat = offsetOf r := by
  constructor
  · intro h
    unfold locate at h
    split at h
    · cases h
    · split at h
      · cases h
      · split at h
        · rename_i hs h4 r' hr
          cases h
          exact ⟨by omega, offsetOf_of_regAt (by omega) hr⟩
        · cases h
  · rintro ⟨rfl, hoff⟩
    have := offsetOf_bounds r
    simp [locate, hoff, this.2, regAt_offsetOf]

end Sys2Proof.Machine
end

