-- ==== Sys2Proof/Laws/Ops.lean ====
section
/-! SUPPORT. One lemma for each shared operation that says all it can do, and the cases of a step. -/

namespace Sys2Proof.Machine

/-- What each operation's completion does to the state. -/
def effectOf : Op → State → Option State
  | .nop => some
  | .keygen => keygenEffect
  | .encb => cryptEffect .enc
  | .decb => cryptEffect .dec
  | .sbox16 => sboxEffect

/-- Whether a state is at the completion of `op`. -/
theorem completing_iff {s : State} {op : Op} :
    s.completing op = true ↔ s.turn = .core ∧ s.busy = true ∧ s.pend = some op ∧ s.stuck = false := by
  simp [State.completing, and_assoc]

/-- While the host moves, no completion is made. -/
theorem completing_of_host {s : State} (h : s.turn = .host) (op : Op) : s.completing op = false := by
  simp [State.completing, h]

/-- A command that passes the check is one of the five, not a reserved word. -/
theorem commandOp_of_check_ok {i : Instr} {s : State} (h : check i s = .ok) :
    ∃ op, commandOp i = some op ∧ i.lenField = requiredLen op ∧ stateCheck op s = .ok := by
  unfold check at h
  split at h
  · cases h
  · rename_i op hop
    split at h
    · rename_i hlen
      exact ⟨op, hop, hlen, h⟩
    · cases h

/-- The three outcomes of a CMD write (R99). -/
theorem cmdWrite_cases (i : Instr) (s : State) :
    (s.busy = true ∧ cmdWrite i s = s.overrun.answer .ack) ∨
    (s.busy = false ∧ check i s ≠ .ok ∧ cmdWrite i s = (s.reject (check i s)).answer .ack) ∨
    (s.busy = false ∧ check i s = .ok ∧
      ∃ op, commandOp i = some op ∧ cmdWrite i s = (s.accept op).answer .ack) := by
  cases hb : s.busy with
  | true => exact .inl ⟨rfl, by simp [cmdWrite, hb]⟩
  | false =>
    by_cases hc : check i s = .ok
    · obtain ⟨op, hop, -, -⟩ := commandOp_of_check_ok hc
      exact .inr (.inr ⟨rfl, hc, op, hop, by simp [cmdWrite, hb, hc, hop]⟩)
    · refine .inr (.inl ⟨rfl, hc, ?_⟩)
      simp only [cmdWrite, hb, Bool.false_eq_true, if_false]
      split
      · contradiction
      · rfl

/-- The two outcomes of a completion (R101, R107). -/
theorem complete_cases (op : Op) (effect : State → Option State) (s : State) :
    (∃ t, effect s = some t ∧ complete op effect s = t.retire) ∨
    (effect s = none ∧ complete op effect s = s.raiseNoValueCompletion op) := by
  cases he : effect s with
  | none => exact .inr ⟨rfl, by simp [complete, he]⟩
  | some t => exact .inl ⟨t, rfl, by simp [complete, he]⟩

/-- A command that the CORE is completing runs its effect. -/
theorem runCommand_completing {i : Instr} {op : Op} {effect : State → Option State} {s : State}
    (h : s.completing op = true) : runCommand i op effect s = .next (complete op effect s) := by
  simp [runCommand, h]

/-- A command that the CORE is not completing is presented at CMD. -/
theorem runCommand_presented {i : Instr} {op : Op} {effect : State → Option State} {s : State}
    (h : s.completing op = false) : runCommand i op effect s = .next (cmdWrite i s) := by
  simp [runCommand, h]

/-- While the host moves, every command word is a CMD write. -/
theorem exec_presented {s : State} (h : s.turn = .host) (i : Instr) : exec i s = .next (cmdWrite i s) := by
  cases i with
  | reserved op rsv len => rfl
  | _ => exact runCommand_presented (completing_of_host h _)

/-- When the CORE completes `op`, the pending command runs its effect. -/
theorem exec_completing {s : State} {op : Op} (h : s.completing op = true) :
    exec op.command s = .next (complete op (effectOf op) s) := by
  cases op <;> exact runCommand_completing h

/-- The three ways a read of a register can end: a value, a bus error, a model fault (R96). -/
theorem readReg_cases (r : WindowReg) (a : HostAccess) (s : State) :
    (∃ v, readReg r a s = s.answer (.data v)) ∨
    (s.busy = true ∧ readReg r a s = s.raiseBus .busy a) ∨
    (s.busy = false ∧ readReg r a s = s.raiseNoValueRead a) := by
  cases hb : s.busy with
  | true =>
    cases r with
    | cmd => exact .inl ⟨_, rfl⟩
    | status => exact .inl ⟨_, rfl⟩
    | _ => exact .inr (.inl ⟨rfl, by simp [readReg, hb]⟩)
  | false =>
    cases r with
    | cmd => exact .inl ⟨_, rfl⟩
    | status => exact .inl ⟨_, rfl⟩
    | key j => exact .inl ⟨0, by simp [readReg, hb]⟩
    | rk i =>
      cases h : s.rk[i] with
      | some v => exact .inl ⟨v, by simp [readReg, hb, h]⟩
      | none => exact .inr (.inr ⟨rfl, by simp [readReg, hb, h]⟩)
    | buf w =>
      cases h : s.buf[w] with
      | some v => exact .inl ⟨v, by simp [readReg, hb, h]⟩
      | none => exact .inr (.inr ⟨rfl, by simp [readReg, hb, h]⟩)

/-- A host read changes nothing but the reply and `FAULTS` (R96, R106, R107). -/
theorem hostRead_cases (size : Nat) (off : Offset) (s : State) :
    (∃ v, hostRead size off s = s.answer (.data v)) ∨
    (∃ b, hostRead size off s = s.raiseBus b (.read size off)) ∨
    (s.busy = false ∧ hostRead size off s = s.raiseNoValueRead (.read size off)) := by
  unfold hostRead
  split
  · rcases readReg_cases _ (.read size off) s with h | ⟨-, h⟩ | ⟨hb, h⟩
    · exact .inl h
    · exact .inr (.inl ⟨_, h⟩)
    · exact .inr (.inr ⟨hb, h⟩)
  · exact .inr (.inl ⟨_, rfl⟩)

/-- A host write is a command word at CMD, a bus error, or a store made while no command is pending (R97). -/
theorem hostWrite_cases (size : Nat) (off : Offset) (v : Word) (s : State) :
    (size = 4 ∧ off = 0x000#12 ∧ hostWrite size off v s = .command v s) ∨
    (∃ b, hostWrite size off v s = .settled (s.raiseBus b (.write size off v))) ∨
    (s.busy = false ∧ size = 4 ∧ ∃ j : Fin 4, off.toNat = 0x010 + 4 * j.val ∧
      hostWrite size off v s = .settled ((s.storeKey j v).answer .ack)) ∨
    (s.busy = false ∧ size = 4 ∧ ∃ w : Fin (4 * Config.nb), off.toNat = 0x200 + 4 * w.val ∧
      hostWrite size off v s = .settled ((s.storeBuf w v).answer .ack)) := by
  cases hl : locate size off with
  | error b => exact .inr (.inl ⟨b, by simp [hostWrite, hl]⟩)
  | ok r =>
    obtain ⟨hs, hoff⟩ := locate_eq_ok_iff.mp hl
    cases r with
    | cmd => exact .inl ⟨hs, BitVec.eq_of_toNat_eq hoff, by simp [hostWrite, hl, writeReg]⟩
    | status => exact .inr (.inl ⟨.ro, by simp [hostWrite, hl, writeReg]⟩)
    | rk i => exact .inr (.inl ⟨.ro, by simp [hostWrite, hl, writeReg]⟩)
    | key j =>
      cases hb : s.busy with
      | true => exact .inr (.inl ⟨.busy, by simp [hostWrite, hl, writeReg, hb]⟩)
      | false => exact .inr (.inr (.inl ⟨rfl, hs, j, hoff, by simp [hostWrite, hl, writeReg, hb]⟩))
    | buf w =>
      cases hb : s.busy with
      | true => exact .inr (.inl ⟨.busy, by simp [hostWrite, hl, writeReg, hb]⟩)
      | false => exact .inr (.inr (.inr ⟨rfl, hs, w, hoff, by simp [hostWrite, hl, writeReg, hb]⟩))

/-- A 32-bit write of CMD hands its word to the decoder. -/
theorem hostWrite_cmd (v : Word) (s : State) : hostWrite 4 0x000#12 v s = .command v s := rfl

/-- Whether the CORE moves. -/
theorem coreMoves_iff {s : State} : s.coreMoves = true ↔ ∃ op, s.completing op = true := by
  simp only [State.coreMoves, completing_iff, Bool.and_eq_true, decide_eq_true_eq, Option.isSome_iff_exists]
  constructor
  · rintro ⟨⟨⟨ht, hb⟩, op, hp⟩, hs⟩
    exact ⟨op, ht, hb, hp, by simpa using hs⟩
  · rintro ⟨op, ht, hb, hp, hs⟩
    exact ⟨⟨⟨ht, hb⟩, op, hp⟩, by simpa using hs⟩

/-- The work of a step is the completion when the CORE moves (R101). -/
theorem nextWork_completing {s : State} {op : Op} (h : s.completing op = true) : nextWork s = .complete op := by
  obtain ⟨ht, hb, hp, hs⟩ := completing_iff.mp h
  simp [nextWork, ht, hb, hp, hs]

/-- The work of a step is the host's when the CORE does not move. -/
theorem nextWork_host {s : State} (h : s.coreMoves = false) : nextWork s = hostWork s := by
  unfold nextWork
  split
  · rename_i op ht hb hp hs
    have : s.coreMoves = true := coreMoves_iff.mpr ⟨op, completing_iff.mpr ⟨ht, hb, hp, hs⟩⟩
    simp [this] at h
  · rfl

/-- A step at the CORE's turn. -/
theorem step_completing {s : State} {op : Op} (h : s.completing op = true) :
    step s = .next (complete op (effectOf op) s).arbitrate := by
  simp [step, nextWork_completing h, exec_completing h, settle]

/-- A step with nothing to do. -/
theorem step_idle {s : State} (h : s.coreMoves = false) (hi : s.inbox = []) : step s = .next s.arbitrate := by
  simp [step, nextWork_host h, hostWork, hi]

/-- A step that takes a reset (R119). -/
theorem step_reset {s : State} {rest : List Event} (h : s.coreMoves = false) (hi : s.inbox = .reset :: rest) :
    step s = .next (s.pop rest).applyReset.arbitrate := by
  simp [step, nextWork_host h, hostWork, hi]

/-- A step that takes a host read (R96). -/
theorem step_read {s : State} {size : Nat} {off : Offset} {rest : List Event} (h : s.coreMoves = false)
    (hi : s.inbox = .access (.read size off) :: rest) : step s = .next (hostRead size off (s.pop rest)).arbitrate := by
  simp [step, nextWork_host h, hostWork, hi]

/-- A step that takes a write of CMD (R99). -/
theorem step_cmdWrite {s : State} {v : Word} {rest : List Event} (h : s.coreMoves = false)
    (hi : s.inbox = .access (.write 4 0x000#12 v) :: rest) :
    step s = .next (cmdWrite (decode v) (s.pop rest)).arbitrate := by
  simp [step, nextWork_host h, hostWork, hi, hostWrite_cmd, exec_presented (s := s.pop rest) rfl, settle]

/-- A step that takes a host write whose effect is settled at the port (R97). -/
theorem step_write {s t : State} {size : Nat} {off : Offset} {v : Word} {rest : List Event} (h : s.coreMoves = false)
    (hi : s.inbox = .access (.write size off v) :: rest) (hw : hostWrite size off v (s.pop rest) = .settled t) :
    step s = .next t.arbitrate := by
  simp [step, nextWork_host h, hostWork, hi, hw]

/-- Everything a step can do. -/
inductive StepCase (s : State) : Prop where
  /-- The CORE completes `op`. -/
  | completion (op : Op) (h : s.completing op = true) (heq : step s = .next (complete op (effectOf op) s).arbitrate)
  /-- Nothing is left to do. -/
  | idle (h : s.coreMoves = false) (hi : s.inbox = []) (heq : step s = .next s.arbitrate)
  /-- The platform resets the CORE. -/
  | reset (rest : List Event) (h : s.coreMoves = false) (hi : s.inbox = .reset :: rest)
      (heq : step s = .next (s.pop rest).applyReset.arbitrate)
  /-- The host reads. -/
  | read (size : Nat) (off : Offset) (rest : List Event) (h : s.coreMoves = false)
      (hi : s.inbox = .access (.read size off) :: rest)
      (heq : step s = .next (hostRead size off (s.pop rest)).arbitrate)
  /-- The host writes CMD. -/
  | cmdWrite (v : Word) (rest : List Event) (h : s.coreMoves = false)
      (hi : s.inbox = .access (.write 4 0x000#12 v) :: rest)
      (heq : step s = .next (cmdWrite (decode v) (s.pop rest)).arbitrate)
  /-- The host's write is a bus error. -/
  | busError (size : Nat) (off : Offset) (v : Word) (b : BusReason) (rest : List Event) (h : s.coreMoves = false)
      (hi : s.inbox = .access (.write size off v) :: rest) (hne : ¬(size = 4 ∧ off = 0x000#12))
      (heq : step s = .next ((s.pop rest).raiseBus b (.write size off v)).arbitrate)
  /-- The host stores a key word. -/
  | storeKey (j : Fin 4) (off : Offset) (v : Word) (rest : List Event) (h : s.coreMoves = false) (hb : s.busy = false)
      (hi : s.inbox = .access (.write 4 off v) :: rest) (hoff : off.toNat = 0x010 + 4 * j.val)
      (heq : step s = .next (((s.pop rest).storeKey j v).answer .ack).arbitrate)
  /-- The host stores a buffer word. -/
  | storeBuf (w : Fin (4 * Config.nb)) (off : Offset) (v : Word) (rest : List Event) (h : s.coreMoves = false)
      (hb : s.busy = false) (hi : s.inbox = .access (.write 4 off v) :: rest) (hoff : off.toNat = 0x200 + 4 * w.val)
      (heq : step s = .next (((s.pop rest).storeBuf w v).answer .ack).arbitrate)

/-- Every step is one of these. -/
theorem step_cases (s : State) : StepCase s := by
  cases hc : s.coreMoves with
  | true =>
    obtain ⟨op, hop⟩ := coreMoves_iff.mp hc
    exact .completion op hop (step_completing hop)
  | false =>
    match hi : s.inbox with
    | [] => exact .idle hc hi (step_idle hc hi)
    | .reset :: rest => exact .reset rest hc hi (step_reset hc hi)
    | .access (.read size off) :: rest => exact .read size off rest hc hi (step_read hc hi)
    | .access (.write size off v) :: rest =>
      rcases hostWrite_cases size off v (s.pop rest) with ⟨rfl, rfl, -⟩ | ⟨b, hw⟩ | ⟨hb, rfl, j, hoff, hw⟩ |
        ⟨hb, rfl, w, hoff, hw⟩
      · exact .cmdWrite v rest hc hi (step_cmdWrite hc hi)
      · by_cases hne : size = 4 ∧ off = 0x000#12
        · obtain ⟨rfl, rfl⟩ := hne
          simp [hostWrite_cmd] at hw
        · exact .busError size off v b rest hc hi hne (step_write hc hi hw)
      · exact .storeKey j off v rest hc hb hi hoff (step_write hc hi hw)
      · exact .storeBuf w off v rest hc hb hi hoff (step_write hc hi hw)

end Sys2Proof.Machine
end

