-- ==== Sys2Proof/Laws/Effects.lean ====
section
/-! SUPPORT. What each command's completion effect is, in one lemma each: its operands, and the registers it writes. -/

namespace Sys2Proof.Machine

/-- KEYGEN's effect needs the four key words and installs their schedule (R84). -/
theorem keygenEffect_eq_some_iff {s t : State} :
    keygenEffect s = some t ↔ ∃ mk : Vector Word 4, s.key = mk.map some ∧ t = s.installSchedule (schedule mk) := by
  simp only [keygenEffect, State.keyOperand, Option.map_eq_some_iff, numbers_eq_some_iff]
  constructor <;> rintro ⟨mk, hk, rfl⟩ <;> exact ⟨mk, hk, rfl⟩

/-- ENCB's and DECB's effect needs the batch and the schedule and replaces the batch (R90). -/
theorem cryptEffect_eq_some_iff {dir : Dir} {s t : State} :
    cryptEffect dir s = some t ↔
      ∃ (b : Vector Word (4 * Config.nb)) (rk : Vector Word 32), s.buf = b.map some ∧ s.rk = rk.map some ∧
        t = s.installBatch (cryptBatch Config.subBackend dir rk b) := by
  unfold cryptEffect
  constructor
  · intro h
    split at h
    · rename_i b rk hb hrk
      cases h
      exact ⟨b, rk, numbers_eq_some_iff.mp hb, numbers_eq_some_iff.mp hrk, rfl⟩
    · cases h
  · rintro ⟨b, rk, hb, hrk, rfl⟩
    simp [State.batchOperand, State.scheduleOperand, numbers_eq_some_iff.mpr hb, numbers_eq_some_iff.mpr hrk]

/-- SBOX16's effect needs the first four words of the buffer and replaces them (R83). -/
theorem sboxEffect_eq_some_iff {s t : State} :
    sboxEffect s = some t ↔
      ∃ w : Vector Word 4, (Vector.ofFn fun m : Fin 4 => s.buf[m.val]) = w.map some ∧
        t = s.installFirst (engineWords Config.subBackend w) := by
  simp only [sboxEffect, State.sboxOperand, Option.map_eq_some_iff, numbers_eq_some_iff]
  constructor <;> rintro ⟨w, hw, rfl⟩ <;> exact ⟨w, hw, rfl⟩

/-- Every effect is one of these updates of the state. -/
theorem effectOf_eq_some {op : Op} {s t : State} (h : effectOf op s = some t) :
    (op = .nop ∧ t = s) ∨
    (op = .keygen ∧ ∃ mk : Vector Word 4, s.key = mk.map some ∧ t = s.installSchedule (schedule mk)) ∨
    ((op = .encb ∨ op = .decb) ∧ ∃ b, t = s.installBatch b) ∨
    (op = .sbox16 ∧ ∃ w, t = s.installFirst w) := by
  cases op with
  | nop => exact .inl ⟨rfl, (Option.some.inj h).symm⟩
  | keygen => exact .inr (.inl ⟨rfl, keygenEffect_eq_some_iff.mp h⟩)
  | encb =>
    obtain ⟨b, rk, -, -, rfl⟩ := cryptEffect_eq_some_iff.mp h
    exact .inr (.inr (.inl ⟨.inl rfl, _, rfl⟩))
  | decb =>
    obtain ⟨b, rk, -, -, rfl⟩ := cryptEffect_eq_some_iff.mp h
    exact .inr (.inr (.inl ⟨.inr rfl, _, rfl⟩))
  | sbox16 =>
    obtain ⟨w, -, rfl⟩ := sboxEffect_eq_some_iff.mp h
    exact .inr (.inr (.inr ⟨rfl, _, rfl⟩))

end Sys2Proof.Machine
end

