-- ==== Sys2Proof/Laws/PerInstr.lean ====
section
/-! SUPPORT. The family EncodingFields of per-instruction statements: the three fields of a command's word are the fields of the command (30_encoding.md R52). -/

namespace Sys2Proof

/-- The fields of an assembled word are the fields it was assembled from (R52). -/
theorem cmdWord_fields (op : BitVec 4) (rsv : BitVec 12) (len : BitVec 16) :
    cmdOp (cmdWord op rsv len) = op ∧ cmdRsv (cmdWord op rsv len) = rsv ∧ cmdLen (cmdWord op rsv len) = len := by
  refine ⟨?_, ?_, ?_⟩ <;> ext i hi <;>
    simp only [cmdOp, cmdRsv, cmdLen, cmdWord, BitVec.getElem_extractLsb', BitVec.getLsbD_append]
  · simp [hi]
  · have h1 : 4 + i - 4 = i := by omega
    simp [h1, hi]
  · have h2 : 16 + i - 4 - 12 = i := by omega
    have h3 : ¬ 16 + i < 4 := by omega
    have h4 : ¬ 16 + i - 4 < 12 := by omega
    simp [h2, h3, h4, hi]

namespace Laws.EncodingFields

/-- The word of a command holds its OP, RSV and LEN. -/
def Statement (i : Instr) : Prop :=
  cmdOp (encode i) = i.opField ∧ cmdRsv (encode i) = i.rsvField ∧ cmdLen (encode i) = i.lenField

theorem nop (len : BitVec 16) : Statement (.nop len) := cmdWord_fields _ _ _

theorem keygen (len : BitVec 16) : Statement (.keygen len) := cmdWord_fields _ _ _

theorem encb (len : BitVec 16) : Statement (.encb len) := cmdWord_fields _ _ _

theorem decb (len : BitVec 16) : Statement (.decb len) := cmdWord_fields _ _ _

theorem sbox16 (len : BitVec 16) : Statement (.sbox16 len) := cmdWord_fields _ _ _

theorem reserved (op : BitVec 4) (rsv : BitVec 12) (len : BitVec 16) : Statement (.reserved op rsv len) :=
  cmdWord_fields _ _ _

end Laws.EncodingFields

end Sys2Proof
end

