-- ==== Sys2Proof/Tests/Slice0.lean ====
section
/-! SUPPORT. Tests: words and values of the spec's own tables and vectors (30_encoding.md, 40_tables.md, 95_test_vectors.md), and a named witness for the hypotheses of each obligation that has some. -/

namespace Sys2Proof.Tests

set_option Elab.async false

open Sys2Proof.Machine

/-! ## Helpers -/

/-- The key, and plaintext block, of V-KAT-1. -/
def kat : Vector Word 4 := #v[0x01234567#32, 0x89ABCDEF#32, 0xFEDCBA98#32, 0x76543210#32]

/-- A batch with the numbers 0, 1, 2, ... in its words. -/
def someBatch : Vector Word 16 := Vector.ofFn fun w => BitVec.ofNat 32 w.val

/-- A schedule with the numbers 0, 1, 2, ... in its words. -/
def someSchedule : Vector Word 32 := Vector.ofFn fun i => BitVec.ofNat 32 i.val

/-- All four key words written. -/
def keyed : State := { State.reset with key := kat.map some, keyw := 0b1111#4 }

/-- A schedule, a batch and a key. -/
def ready : State := { keyed with rk := someSchedule.map some, schedValid := true, buf := someBatch.map some }

/-- The command `op` is pending and the CORE moves. -/
def State.atCompletion (s : State) (op : Op) : State := { s with turn := .core, busy := true, pend := some op }

/-- The command `op` is pending and the host moves. -/
def State.whilePending (s : State) (op : Op) : State := { s with busy := true, pend := some op }

/-- The host's only access is `a`. -/
def State.withAccess (s : State) (a : HostAccess) : State := { s with inbox := [.access a] }

/-- The state an outcome leads to; the reset state where it is a stop. -/
def after : Host.Outcome State Fault Refusal → State
  | .next s => s
  | .fault _ => State.reset
  | .refused _ => State.reset

/-- Whether a state has a next step. -/
def goesOn (s : State) : Bool :=
  match step s with
  | .next _ => true
  | .fault _ => false
  | .refused _ => false

/-- The state after the write of `v` to CMD. -/
def State.afterCmd (s : State) (v : Word) : State := after (step (State.withAccess s (.write 4 0x000#12 v)))

/-! ## Well-formedness and decoding -/

/-- OP 0x4 with RSV 0 is the row SBOX16, so it is no reserved word (R56). -/
theorem test_wellFormed_rejects_sbox16_as_reserved : (Instr.reserved 0x4 0 16).wellFormed = false := by decide

/-- OP 0x0 with RSV 0 is the row NOP. -/
theorem test_wellFormed_rejects_nop_as_reserved : (Instr.reserved 0x0 0 0).wellFormed = false := by decide

/-- RSV = 1 makes any OP reserved (R55). -/
theorem test_wellFormed_accepts_rsv : (Instr.reserved 0x0 1 0).wellFormed = true := by decide

/-- LEN 0, RSV 0, OP 0 (R58). -/
theorem test_decode_nop : decode 0b0000000000000000_000000000000_0000#32 = .nop 0 := by decide

/-- LEN 16, RSV 0, OP 1 (R58). -/
theorem test_decode_keygen : decode 0b0000000000010000_000000000000_0001#32 = .keygen 16 := by decide

/-- LEN 64, RSV 0, OP 2 (R58). -/
theorem test_decode_encb : decode 0b0000000001000000_000000000000_0010#32 = .encb 64 := by decide

/-- LEN 64, RSV 0, OP 3 (R58). -/
theorem test_decode_decb : decode 0b0000000001000000_000000000000_0011#32 = .decb 64 := by decide

/-- LEN 16, RSV 0, OP 4 (R58). -/
theorem test_decode_sbox16 : decode 0b0000000000010000_000000000000_0100#32 = .sbox16 16 := by decide

/-- OP 5 is reserved, and so is OP 4 with RSV = 1 (R55, R56). -/
theorem test_decode_reserved :
    decode 0b0000000000000000_000000000000_0101#32 = .reserved 5 0 0 ∧
      decode 0b0000000000010000_000000000001_0100#32 = .reserved 4 1 16 := by decide

/-- The highest LEN bit and the lowest one reach LEN (R52). -/
theorem test_decode_len_ends : decode 0b1000000000000001_000000000000_0001#32 = .keygen 0x8001 := by decide

/-- The words the encoder writes for the five accepted commands with NB = 4 (R58). -/
theorem test_encode_words :
    [Op.nop, .keygen, .encb, .decb, .sbox16].map (fun op => encode op.command) =
      [0x00000000#32, 0x00100001#32, 0x00400002#32, 0x00400003#32, 0x00100004#32] := by decide

/-- Bits of a row above nbits are zero, and no row is longer than one word (R57). -/
theorem test_decodeTableWord : decodeTableWord 32 0x00400002 = some (.encb 64) ∧ decodeTableWord 16 0x00400002 = some (.encb 0) ∧
    decodeTableWord 40 0 = none := by decide

/-- The parameter NB is in the range of R6. -/
theorem test_nb_in_range : 1 ≤ Config.nb ∧ Config.nb ≤ 8 := by decide

/-! ## Tables and word functions -/

/-- V-TAB-1. -/
theorem test_sbox : [0x00#8, 0x01, 0x0F, 0x10, 0x53, 0x7F, 0x80, 0xAB, 0xD6, 0xFE, 0xFF].map sbox =
    [0xD6#8, 0x90, 0x05, 0x2B, 0xB2, 0x9E, 0xEA, 0xAB, 0x7B, 0x39, 0x48] := by decide

/-- V-TAB-2. -/
theorem test_aesSbox : [0x00#8, 0x01, 0x23, 0x53, 0xFF].map aesSbox = [0x63#8, 0x7C, 0x26, 0xED, 0x16] := by decide

/-- V-TAB-3: TA, and the whole conjugation of byte 53. -/
theorem test_conjugation_steps : [0x00#8, 0x01, 0x53, 0x80, 0xFF].map ta = [0x00#8, 0xCA, 0xE7, 0x40, 0xC0] ∧
    [0x26#8, 0x1E, 0x1C, 0xFB, 0x11].map ata = [0xED#8, 0xAB, 0x89, 0xD1, 0x73] ∧ c1 = 0x23#8 ∧ c2 = 0x3B#8 := by decide

/-- V-TAB-4: tau, L and Lp. -/
theorem test_word_functions : tau 0x01234567#32 = 0x90F473A2#32 ∧ diffL 0x80000000#32 = 0x80820202#32 ∧
    diffL 0x01234567#32 = 0xFA26EB37#32 ∧ diffLp 0x80000000#32 = 0x80401000#32 ∧ diffLp 0x000000FF#32 = 0x7F9FE0FF#32 := by
  decide

/-- V-TAB-5. -/
theorem test_ck : [0, 1, 9, 31].map ck = [0x00070E15#32, 0x1C232A31#32, 0xFC030A11#32, 0x646B7279#32] := by decide

/-- V-SE-1: the engine on the bytes 0 to 15. -/
theorem test_engine_backend : seAes #v[0, 1, 2, 3, 4, 5, 6, 7, 8, 9, 10, 11, 12, 13, 14, 15] =
    #v[0xD6, 0x90, 0xE9, 0xFE, 0xCC, 0xE1, 0x3D, 0xB7, 0x16, 0xB6, 0x14, 0xC2, 0x28, 0xFB, 0x2C, 0x05] := by decide +kernel

/-! ## Commands -/

/-- V-CMD-1: the ERR field after each word from reset. -/
theorem test_check_outcomes :
    [0x00000000#32, 0x00010000#32, 0x00000005#32, 0x0000000F#32, 0x00100004#32, 0x00100014#32, 0x00100001#32, 0x00400002#32,
      0xFFFFFFFF#32].map (fun v => (State.afterCmd State.reset v).err.code) = [0#4, 1, 2, 2, 0, 2, 1, 3, 2] := by decide

/-- V-KS-5 and V-ENC-6: KEYW = 0111 is not enough for KEYGEN; the length is checked before the schedule, and 0x00300002
and 0x00800002 have the wrong one. -/
theorem test_acceptance_checks : check (decode 0x00100001#32) { keyed with keyw := 0b0111#4 } = .invalidInput ∧
    check (decode 0x00100001#32) keyed = .ok ∧ check (decode 0x00300002#32) State.reset = .invalidInput ∧
    check (decode 0x00800002#32) ready = .invalidInput ∧ check (decode 0x00400003#32) ready = .ok := by decide

/-- P3 line 12: NOP accepted after an ILLEGAL_CMD with all key words written. -/
theorem test_nop_presented : (State.afterCmd { keyed with err := .illegalCmd } 0x00000000#32).statusWord = 0x000400F1#32 := by
  decide

/-- P3 line 13: its completion clears BUSY. -/
theorem test_nop_completes : (after (exec (.nop 0) (State.atCompletion keyed .nop))).statusWord = 0x000400F0#32 := by decide

/-- P3 line 1. -/
theorem test_reserved_presented : (State.afterCmd State.reset 0x00000005#32).statusWord = 0x00040200#32 := by decide

/-- P1 line 6 and 7: STATUS after the acceptance and after the completion of KEYGEN. -/
theorem test_keygen_status : (State.afterCmd keyed 0x00100001#32).statusWord = 0x000400F1#32 ∧
    (after (exec (.keygen 16) (State.atCompletion keyed .keygen))).statusWord = 0x00040002#32 := by decide +kernel

/-- V-KS-1: the first and the last round key of the completion. -/
theorem test_keygen_schedule : (after (exec (.keygen 16) (State.atCompletion keyed .keygen))).rk[0] = some 0xF12186F9#32 ∧
    (after (exec (.keygen 16) (State.atCompletion keyed .keygen))).rk[31] = some 0x9124A012#32 := by decide +kernel

/-- V-KAT-1: one block, with a batch of one block. -/
theorem test_encrypt_known_answer : cryptBatch (nb := 1) .aesConj .enc (schedule kat) kat =
    #v[0x681EDF34#32, 0xD206965E#32, 0x86B3E94F#32, 0x536E4246#32] := by decide +kernel

/-- V-DEC-2: the other order of the round keys. -/
theorem test_decrypt_known_answer : cryptBatch (nb := 1) .table .dec (schedule kat) kat =
    #v[0x9338375E#32, 0x82EEC1CB#32, 0xBEF65EDF#32, 0x8757A631#32] := by decide +kernel

/-- P1 line 26: ENCB is accepted with a schedule; P2 line 1: so is DECB. -/
theorem test_encb_decb_status :
    (State.afterCmd { State.reset with schedValid := true } 0x00400002#32).statusWord = 0x00040003#32 ∧
      (State.afterCmd { State.reset with schedValid := true } 0x00400003#32).statusWord = 0x00040003#32 := by decide

/-- The first four words of P4. -/
def p4Words : Vector Word 4 := #v[0x00010203#32, 0x04050607#32, 0x08090A0B#32, 0x0C0D0E0F#32]

/-- The state of P4 at the completion of SBOX16: BUF[4..15] were never written. -/
def p4State : State :=
  State.atCompletion { State.reset with buf := Vector.ofFn fun w => if h : w.val < 4 then some p4Words[w.val] else none } .sbox16

/-- V-SE-2: SBOX16 on four words. -/
theorem test_sbox16_completes : ((after (exec (.sbox16 16) p4State)).buf.toList.take 5) =
    [some 0xD690E9FE#32, some 0xCCE13DB7#32, some 0x16B614C2#32, some 0x28FB2C05#32, none] := by decide +kernel

/-- P7: ENCB meets a ⊥ word: the model fault is recorded and STATUS stays. -/
theorem test_encb_without_value :
    (after (exec (.encb 64) (State.atCompletion { ready with buf := State.reset.buf, keyw := 0 } .encb))).statusWord =
      0x00040003#32 ∧
    (after (exec (.encb 64) (State.atCompletion { ready with buf := State.reset.buf } .encb))).faults =
      [.noValueCompletion .encb] := by decide +kernel

/-- P7, end state, and V-RST-2: STATUS reads 0x00040003 after the model fault, and a reset ends the stuck command. -/
theorem test_after_model_fault :
    (after (step { State.atCompletion { ready with buf := State.reset.buf, keyw := 0 } .encb with
      inbox := [.access (.read 4 0x004#12)] })).stuck = true ∧
    (after (step (State.withAccess { State.whilePending ready .encb with keyw := 0, stuck := true } (.read 4 0x004#12)))).reply =
      some (.data 0x00040003#32) ∧
    (after (step { State.whilePending ready .encb with stuck := true, inbox := [.reset] })).statusWord = 0x00040000#32 := by
  decide +kernel

/-- V-CMD-2 and P5 line 7. -/
theorem test_cmd_while_busy :
    (after (exec (.encb 64) (State.whilePending keyed .keygen))).statusWord = 0x000400F5#32 := by decide

/-! ## The window -/

/-- The fault and the reply of the first access after reset. -/
def firstAccess (s : State) (a : HostAccess) : List FaultEvent × Option Reply :=
  ((after (step (State.withAccess s a))).faults, (after (step (State.withAccess s a))).reply)

/-- V-BUS-1: reads from reset. -/
theorem test_bus_reads :
    firstAccess State.reset (.read 4 0x000) = ([], some (.data 0)) ∧
    firstAccess State.reset (.read 4 0x010) = ([], some (.data 0)) ∧
    firstAccess State.reset (.read 4 0x008) = ([.busError .unmapped (.read 4 0x008)], some .error) ∧
    firstAccess State.reset (.read 4 0x006) = ([.busError .align (.read 4 0x006)], some .error) ∧
    firstAccess State.reset (.read 2 0x006) = ([.busError .size (.read 2 0x006)], some .error) ∧
    firstAccess State.reset (.read 4 0x200) = ([.noValueRead (.read 4 0x200)], some .noValue) ∧
    firstAccess State.reset (.read 4 0x100) = ([.noValueRead (.read 4 0x100)], some .noValue) ∧
    firstAccess State.reset (.read 4 0x240) = ([.busError .unmapped (.read 4 0x240)], some .error) ∧
    firstAccess State.reset (.read 4 0x004) = ([], some (.data 0x00040000#32)) := by decide

/-- V-BUS-1: writes of read-only registers, and the accesses while BUSY of P6 lines 15 to 19. -/
theorem test_bus_busy :
    firstAccess State.reset (.write 4 0x004 0) = ([.busError .ro (.write 4 0x004 0)], some .error) ∧
    firstAccess (State.whilePending keyed .keygen) (.read 4 0x100) = ([.busError .busy (.read 4 0x100)], some .error) ∧
    firstAccess (State.whilePending keyed .keygen) (.write 4 0x100 0) = ([.busError .ro (.write 4 0x100 0)], some .error) ∧
    firstAccess (State.whilePending keyed .keygen) (.write 4 0x010 0) = ([.busError .busy (.write 4 0x010 0)], some .error) ∧
    firstAccess (State.whilePending keyed .keygen) (.write 4 0x200 0) = ([.busError .busy (.write 4 0x200 0)], some .error) ∧
    firstAccess (State.whilePending keyed .keygen) (.read 4 0x004) = ([], some (.data 0x000400F1#32)) := by decide

/-- P1 lines 3 and 4: KEYW after the writes of KEY1 and KEY2. -/
theorem test_keyw : (after (step (State.withAccess { State.reset with keyw := 0b0001#4 } (.write 4 0x014 0x89ABCDEF)))).statusWord =
    0x00040030#32 := by decide

/-- The map of R41 at the ends of its ranges. -/
theorem test_window_map : [0x01C, 0x100, 0x17C, 0x200, 0x23C].map regAt =
    [some (.key 3), some (.rk 0), some (.rk 31), some (.buf 0), some (.buf 15)] ∧
    [0x008, 0x00C, 0x020, 0x0FC, 0x180, 0x1FC, 0x240, 0x27C, 0x280, 0xFFC].map regAt = List.replicate 10 none := by decide

/-- The first command after reset runs: withFetchWord presents it, and its acceptance sets BUSY. -/
theorem test_withFetchWord : (after (step (State.reset.withFetchWord 32 0x00100004))).statusWord = 0x00040001#32 := by decide

/-- V-RST-2: reset while KEYGEN is pending. -/
theorem test_reset_event : (after (step { State.whilePending ready .keygen with inbox := [.reset] })).statusWord = 0x00040000#32 := by
  decide

/-! ## Witnesses: the hypotheses of the obligations can be met -/

theorem witness_decode_of_encode : ∀ i ∈ [Instr.nop 0, .keygen 0xFFFF, .encb 64, .decb 64, .sbox16 16, .reserved 5 0 0,
    .reserved 0xF 0xFFF 0xFFFF, .reserved 0 1 0], i.wellFormed = true := by decide

/-- Each row's words, with the right LEN and with a wrong one. -/
theorem witness_decode_by_mask :
    [0x00000000#32, 0xFFFF0000#32].map (· &&& 0x0000FFFF#32) = List.replicate 2 0x00000000#32 ∧
    [0x00100001#32, 0x000F0001#32].map (· &&& 0x0000FFFF#32) = List.replicate 2 0x00000001#32 ∧
    [0x00400002#32, 0x00410002#32].map (· &&& 0x0000FFFF#32) = List.replicate 2 0x00000002#32 ∧
    [0x00400003#32, 0x003F0003#32].map (· &&& 0x0000FFFF#32) = List.replicate 2 0x00000003#32 ∧
    [0x00100004#32, 0x00110004#32].map (· &&& 0x0000FFFF#32) = List.replicate 2 0x00000004#32 ∧
    (0xFFFF#16).toNat ≠ 0x0000 ∧ (0x000F#16).toNat ≠ 0x0010 ∧ (0x0041#16).toNat ≠ 16 * Config.nb := by decide

/-- The reserved words next to the last row and above the first: OP 5, and RSV 1. -/
theorem witness_reserved_by_mask :
    [0x00100005#32, 0x00000010#32].map (· &&& 0x0000FFFF#32) = [0x00000005#32, 0x00000010#32] ∧
    [0x00000000#32, 0x00000001#32, 0x00000002#32, 0x00000003#32, 0x00000004#32].all
      (fun row => 0x00000005#32 != row && 0x00000010#32 != row) = true := by decide

theorem witness_step_runs_decoded_command :
    (State.withAccess keyed (.write 4 0x000#12 0x00100001#32)).presents (.write 4 0x000#12 0x00100001#32) [] ∧
    (State.atCompletion keyed .keygen).completes .keygen := by decide

/-- A dropped, a rejected and an accepted word. -/
theorem witness_cmd_write :
    (State.withAccess (State.whilePending keyed .nop) (.write 4 0x000#12 0)).presents (.write 4 0x000#12 0) [] ∧
    (State.withAccess (State.whilePending keyed .nop) (.write 4 0x000#12 0)).busy = true ∧
    (State.withAccess keyed (.write 4 0x000#12 5)).presents (.write 4 0x000#12 5) [] ∧
    (State.withAccess keyed (.write 4 0x000#12 5)).busy = false ∧
    checkWord 5 (State.withAccess keyed (.write 4 0x000#12 5)) ≠ .ok ∧
    checkWord 0x00100001#32 (State.withAccess keyed (.write 4 0x000#12 0x00100001#32)) = .ok := by decide

theorem witness_commands_are_accepted : ready.idle ∧ ready.keyw = 0b1111#4 ∧ ready.schedValid = true := by decide

theorem witness_reserved_word : ready.busy = false := by decide

/-- An idle state, and lengths next to the required ones. -/
theorem witness_wrong_length : ready.idle ∧ (1#16).toNat ≠ 0 ∧ (15#16).toNat ≠ 16 ∧ (17#16).toNat ≠ 16 ∧
    (63#16).toNat ≠ 16 * Config.nb ∧ (65#16).toNat ≠ 16 * Config.nb := by decide

/-- A state with one key word missing and no schedule. -/
theorem witness_missing_key_or_schedule : ({ keyed with keyw := 0b1110#4 } : State).idle ∧
    ({ keyed with keyw := 0b1110#4 } : State).keyw ≠ 0b1111#4 ∧ ({ keyed with keyw := 0b1110#4 } : State).schedValid = false := by
  decide

theorem witness_command_while_busy : (State.whilePending ready .encb).turn = .host ∧ (State.whilePending ready .encb).busy = true := by
  decide

theorem witness_nop_completes : (State.atCompletion State.reset .nop).completes .nop := by decide

theorem witness_keygen_completes :
    (State.atCompletion keyed .keygen).completes .keygen ∧ (State.atCompletion keyed .keygen).key = kat.map some :=
  ⟨by decide, rfl⟩

theorem witness_encb_completes : (State.atCompletion ready .encb).completes .encb ∧
    (State.atCompletion ready .encb).rk = someSchedule.map some ∧ (State.atCompletion ready .encb).buf = someBatch.map some :=
  ⟨by decide, rfl, rfl⟩

theorem witness_decb_completes : (State.atCompletion ready .decb).completes .decb ∧
    (State.atCompletion ready .decb).rk = someSchedule.map some ∧ (State.atCompletion ready .decb).buf = someBatch.map some :=
  ⟨by decide, rfl, rfl⟩

/-- SBOX16 with the words beyond the first four never written. -/
theorem witness_sbox16_completes : p4State.completes .sbox16 ∧ ∀ m : Fin 4, p4State.buf[m.val] = some p4Words[m] := by
  refine ⟨by decide, fun m => ?_⟩
  simp [p4State, State.atCompletion]

/-- From reset, every completion but NOP's needs a ⊥ word; with a batch ENCB still misses its schedule. -/
theorem witness_completion_without_value :
    ((State.atCompletion State.reset .keygen).completes .keygen ∧ ∃ j : Fin 4, (State.atCompletion State.reset .keygen).key[j] = none) ∧
    ((State.atCompletion State.reset .encb).completes .encb ∧ ∃ w : Fin 16, (State.atCompletion State.reset .encb).buf[w.val] = none) ∧
    ((State.atCompletion State.reset .decb).completes .decb ∧ ∃ i : Fin 32, (State.atCompletion State.reset .decb).rk[i] = none) ∧
    ((State.atCompletion State.reset .sbox16).completes .sbox16 ∧
      ∃ m : Fin 4, (State.atCompletion State.reset .sbox16).buf[m.val] = none) := by decide

/-- The state that a completion of ENCB with ⊥ in the buffer leaves (P7), with the events `es` to come. -/
def stuckState (es : List Event) : State :=
  { State.whilePending ready .encb with buf := State.reset.buf, faults := [.noValueCompletion .encb], stuck := true, inbox := es }

/-- A stuck command, with nothing, a host access or a reset to come. -/
theorem witness_stuck_command :
    (∀ es, (stuckState es).busy = true ∧ (stuckState es).stuck = true) ∧
    [[], [.access (.read 4 0x004#12)], [.reset]].all (fun es => goesOn (stuckState es)) = true :=
  ⟨fun _ => ⟨rfl, rfl⟩, by decide⟩

/-- Two states that hold the same key and differ elsewhere. -/
theorem witness_schedule_depends_on_the_key : (State.atCompletion keyed .keygen).completes .keygen ∧
    (State.atCompletion ready .keygen).completes .keygen ∧ (State.atCompletion keyed .keygen).key = kat.map some ∧
    (State.atCompletion ready .keygen).key = (State.atCompletion keyed .keygen).key := ⟨by decide, by decide, rfl, rfl⟩

/-- The last block of a batch of four. -/
theorem witness_crypt_is_per_block : someBatch[12]? = some 12#32 ∧ someBatch[13]? = some 13#32 ∧ someBatch[14]? = some 14#32 ∧
    someBatch[15]? = some 15#32 := by decide +kernel

/-- Block 0 of a batch of one, at another place of a batch of two. -/
theorem witness_blocks_are_independent : ∀ j : Fin 4,
    (kat : Vector Word (4 * 1))[4 * 0 + j.val]? = ((#v[0#32, 0#32, 0#32, 0#32] : Vector Word 4) ++ kat : Vector Word (4 * 2))[4 * 1 + j.val]? := by
  decide +kernel

/-- ENCB's result may be followed by a state at the completion of DECB with the same BUF and RK, and the other way. -/
theorem witness_decryption_undoes_encryption (t : State) :
    (State.atCompletion ready .encb).completes .encb ∧ (State.atCompletion ready .decb).completes .decb ∧
    (State.atCompletion { ready with rk := t.rk, buf := t.buf } .decb).completes .decb ∧
    (State.atCompletion { ready with rk := t.rk, buf := t.buf } .encb).completes .encb :=
  ⟨by decide, by decide, ⟨rfl, rfl, rfl, rfl⟩, ⟨rfl, rfl, rfl, rfl⟩⟩

/-- Reads at both ends of each range, while BUSY or not, and of words that hold ⊥ or a number. -/
theorem witness_host_reads :
    (∀ off : Offset, (State.withAccess ready (.read 4 off)).presents (.read 4 off) [] ∧
      (State.withAccess (State.whilePending ready .nop) (.read 4 off)).presents (.read 4 off) []) ∧
    (0x000#12).toNat = 0x000 ∧ (0x004#12).toNat = 0x004 ∧
    (0x010#12).toNat = 0x010 + 4 * (0 : Fin 4).val ∧ (0x01C#12).toNat = 0x010 + 4 * (3 : Fin 4).val ∧
    (0x100#12).toNat = 0x100 + 4 * (0 : Fin 32).val ∧ (0x17C#12).toNat = 0x100 + 4 * (31 : Fin 32).val ∧
    (0x200#12).toNat = 0x200 + 4 * (0 : Fin 16).val ∧ (0x23C#12).toNat = 0x200 + 4 * (15 : Fin 16).val ∧
    State.reset.rk[31] = none ∧ State.reset.buf[15] = none ∧ ready.rk[31] = some 31#32 ∧ ready.buf[15] = some 15#32 :=
  ⟨fun _ => ⟨⟨rfl, rfl⟩, ⟨rfl, rfl⟩⟩, by decide +kernel⟩

/-- Writes at every offset, while BUSY and not (the ends of the ranges are those of the reads). -/
theorem witness_host_writes (off : Offset) (v : Word) :
    (State.withAccess ready (.write 4 off v)).presents (.write 4 off v) [] ∧
    (State.withAccess ready (.write 4 off v)).busy = false ∧
    (State.withAccess (State.whilePending ready .nop) (.write 4 off v)).presents (.write 4 off v) [] ∧
    (State.withAccess (State.whilePending ready .nop) (.write 4 off v)).busy = true :=
  ⟨⟨rfl, rfl⟩, rfl, ⟨rfl, rfl⟩, rfl⟩

/-- A 16-bit access, a misaligned one, and reserved offsets at the ends of the ranges of R41. -/
theorem witness_address_checks :
    (∀ (size : Nat) (off : Offset) (v : Word), (State.withAccess ready (.read size off)).presents (.read size off) [] ∧
      (State.withAccess ready (.write size off v)).presents (.write size off v) []) ∧
    2 ≠ 4 ∧ 8 ≠ 4 ∧ (0x006#12).toNat % 4 ≠ 0 ∧ (0xFFF#12).toNat % 4 ≠ 0 ∧
    ∀ n ∈ [0x008, 0x00C, 0x020, 0x0FC, 0x180, 0x1FC, 0x240, 0x27C, 0x280, 0xFFC], n % 4 = 0 ∧ reservedOffset n :=
  ⟨fun _ _ _ => ⟨⟨rfl, rfl⟩, ⟨rfl, rfl⟩⟩, by decide⟩

/-- A pending command, with an access of CMD, STATUS, a register or a reserved offset next. -/
theorem witness_pending_window : (State.whilePending ready .nop).busy = true ∧
    (∀ (off : Offset) (v : Word), (State.withAccess (State.whilePending ready .nop) (.read 4 off)).presents (.read 4 off) [] ∧
      (State.withAccess (State.whilePending ready .nop) (.write 4 off v)).presents (.write 4 off v) []) ∧
    [0x000#12, 0x004#12, 0x23C#12, 0xFFC#12].all (fun off => off.toNat % 4 == 0 &&
      goesOn (State.withAccess (State.whilePending ready .nop) (.read 4 off)) &&
      goesOn (State.withAccess (State.whilePending ready .nop) (.write 4 off 1))) = true :=
  ⟨rfl, fun _ _ => ⟨⟨rfl, rfl⟩, ⟨rfl, rfl⟩⟩, by decide⟩

/-- Addresses next to the window. -/
theorem witness_addresses_outside : Config.coreBase + 4096 ≤ Config.coreBase + 4096 := Nat.le_refl _

/-- BUSY changes both ways: an acceptance, a completion, a reset. -/
theorem witness_busy_changes :
    (∃ t, step (State.withAccess State.reset (.write 4 0x000#12 0)) = .next t ∧ t.busy = true) ∧
    (∃ t, step (State.atCompletion State.reset .nop) = .next t ∧ t.busy = false) ∧
    (∃ t, step { State.whilePending ready .nop with inbox := [.reset] } = .next t ∧ t.busy = false) :=
  ⟨⟨_, rfl, rfl⟩, ⟨_, rfl, rfl⟩, ⟨_, rfl, rfl⟩⟩

/-- SCHED_VALID and RK change: the completion of KEYGEN, and a reset. -/
theorem witness_sched_valid_changes :
    (goesOn (State.atCompletion keyed .keygen) = true ∧ keyed.schedValid = false ∧
      (after (step (State.atCompletion keyed .keygen))).schedValid = true ∧
      (after (step (State.atCompletion keyed .keygen))).rk[0].isSome = true ∧ keyed.rk[0] = none) ∧
    (goesOn { ready with inbox := [.reset] } = true ∧ ready.schedValid = true ∧
      (after (step { ready with inbox := [.reset] })).schedValid = false ∧
      (after (step { ready with inbox := [.reset] })).rk[0] = none) := by decide +kernel

/-- Steps that the rules of OVR, KEYW and ERR speak of: a CMD write, a key write, a completion of KEYGEN, and nothing. -/
theorem witness_register_rules :
    (goesOn (State.withAccess ready (.write 4 0x000#12 5)) = true ∧
      (State.withAccess ready (.write 4 0x000#12 5)).coreMoves = false) ∧
    (goesOn (State.withAccess ready (.write 4 0x01C#12 5)) = true ∧ (0x01C#12).toNat = 0x010 + 4 * (3 : Fin 4).val ∧
      ready.busy = false) ∧
    (goesOn (State.atCompletion keyed .keygen) = true ∧ (State.atCompletion keyed .keygen).coreMoves = true ∧
      (after (step (State.atCompletion keyed .keygen))).busy = false) ∧
    (goesOn { ready with inbox := [.reset] } = true ∧ ({ ready with inbox := [.reset] } : State).coreMoves = false) ∧
    (goesOn ready = true ∧ ready.inbox = []) := by decide +kernel

/-- A buffer word changes by a host write (the completion of SBOX16 is test_sbox16_completes). -/
theorem witness_buffer_changes : goesOn (State.withAccess ready (.write 4 0x23C#12 5)) = true ∧
    (after (step (State.withAccess ready (.write 4 0x23C#12 5)))).buf[15] = some 5#32 ∧ ready.buf[15] = some 15#32 := by
  decide +kernel

/-- A host step while a command is pending. -/
theorem witness_pending_is_sealed :
    (State.withAccess (State.whilePending ready .encb) (.write 4 0x23C#12 5)).busy = true ∧
    (State.withAccess (State.whilePending ready .encb) (.write 4 0x23C#12 5)).coreMoves = false ∧
    (State.withAccess (State.whilePending ready .encb) (.write 4 0x23C#12 5)).inbox.head? ≠ some .reset ∧
    goesOn (State.withAccess (State.whilePending ready .encb) (.write 4 0x23C#12 5)) = true := by decide

/-- A step that is not KEYGEN's completion, in a state that holds a key. -/
theorem witness_key_is_never_readable : (State.withAccess keyed (.read 4 0x010#12)).coreMoves = false ∧
    goesOn (State.withAccess keyed (.read 4 0x010#12)) = true := by decide

/-- A state with a fault recorded that runs on. -/
theorem witness_faults_are_never_removed : ({ State.reset with faults := [.noValueCompletion .encb] } : State).faults ≠ [] ∧
    ∃ t, Host.Core.run Sys2Proof.core 1 ({ State.reset with faults := [.noValueCompletion .encb] } : State) = .next t :=
  ⟨by decide, _, rfl⟩

theorem witness_reset_event : ({ State.whilePending ready .keygen with inbox := [.reset] } : State).coreMoves = false ∧
    ({ State.whilePending ready .keygen with inbox := [.reset] } : State).inbox = .reset :: [] := ⟨rfl, rfl⟩

theorem witness_idle_keeps_all_state : State.reset.idle ∧ State.reset.inbox = [] := by decide

/-- A pending SBOX16 in a state of the invariant. -/
theorem witness_pending_command : (State.atCompletion State.reset .sbox16).Inv ∧ (State.atCompletion State.reset .sbox16).busy = true ∧
    (State.atCompletion State.reset .sbox16).stuck = false ∧ Event.reset ∉ (State.atCompletion State.reset .sbox16).inbox := by
  refine ⟨?_, rfl, rfl, by simp [State.atCompletion, State.reset]⟩
  constructor <;> simp [State.atCompletion, State.reset, State.nextTurn]

/-- The invariant at reset, whose step has a next state. -/
theorem witness_invariant : State.reset.Inv ∧ ∃ t, step State.reset = .next t := by
  refine ⟨?_, _, rfl⟩
  constructor <;> simp [State.reset, State.nextTurn]

/-- A pending KEYGEN in a state of the invariant. -/
theorem witness_accepted_keygen : (State.atCompletion keyed .keygen).Inv ∧ (State.atCompletion keyed .keygen).pend = some .keygen := by
  refine ⟨?_, rfl⟩
  constructor
  case keyw_iff_key => decide +kernel
  all_goals simp [State.atCompletion, keyed, State.reset, State.nextTurn]

/-- A pending ENCB in a state of the invariant whose buffer holds ⊥: its completion makes the state stuck. -/
theorem witness_accepted_encb :
    let s := State.atCompletion { State.reset with rk := (schedule kat).map some, schedValid := true } .encb
    s.Inv ∧ s.pend = some .encb ∧ s.stuck = false ∧ goesOn s = true ∧ (after (step s)).stuck = true := by
  refine ⟨?_, rfl, rfl, by decide +kernel, by decide +kernel⟩
  constructor
  case valid_schedule => exact fun _ => ⟨kat, rfl⟩
  all_goals simp [State.atCompletion, State.reset, State.nextTurn]

end Sys2Proof.Tests
end

section
/-! PROOFS. The STATUS word and its fields KEYW and ERR (10_state.md R24 to R27): the word as a number, the outcome of a
command word, and what each step does to KEYW and ERR. -/

namespace Sys2Proof.Machine

/-! ### Bits and fields of a word as numbers -/

@[simp] theorem bitWord_toNat (b : Bool) : (bitWord b).toNat = b.toNat := by
  cases b <;> rfl

/-- A field put above bits that lie wholly under it adds its value at its place. -/
theorem toNat_shiftLeft_or {x y : Word} {n a b : Nat} (hx : x.toNat = a) (hy : y.toNat = b)
    (ha : a * 2 ^ n < 2 ^ 32) (hb : b < 2 ^ n) : (x <<< n ||| y).toNat = a * 2 ^ n + b := by
  rw [BitVec.toNat_or, BitVec.toNat_shiftLeft, hx, hy, Nat.shiftLeft_eq, Nat.mod_eq_of_lt ha, ← Nat.shiftLeft_eq,
    ← Nat.shiftLeft_add_eq_or_of_lt hb]

theorem getLsbD_eq_iff_toNat {w : Word} {i : Nat} {b : Bool} : w.getLsbD i = b ↔ w.toNat / 2 ^ i % 2 = b.toNat := by
  rw [BitVec.getLsbD, Nat.testBit_eq_decide_div_mod_eq]
  cases b <;> simp

theorem extractLsb'_eq_iff_toNat {w : Word} {start len : Nat} {x : BitVec len} :
    w.extractLsb' start len = x ↔ w.toNat / 2 ^ start % 2 ^ len = x.toNat := by
  rw [← BitVec.toNat_inj, BitVec.extractLsb'_toNat, Nat.shiftRight_eq_div_pow]

/-! ### The STATUS word -/

/-- The fields of STATUS lie side by side, so its word is the sum of their values, each at its place (R20). -/
theorem statusWord_toNat (s : State) :
    s.statusWord.toNat = 65536 * Config.nb + 256 * s.err.code.toNat + 16 * s.keyw.toNat + 4 * s.ovr.toNat +
      2 * s.schedValid.toNat + s.busy.toNat := by
  have herr := s.err.code.isLt
  have hkeyw := s.keyw.isLt
  have hovr := s.ovr.toNat_lt
  have hvalid := s.schedValid.toNat_lt
  have hbusy := s.busy.toNat_lt
  have hfield (x : BitVec 4) : (x.setWidth 32).toNat = x.toNat := BitVec.toNat_setWidth_of_le (by decide)
  have hnb : ((BitVec.ofNat 4 Config.nb).setWidth 32).toNat = Config.nb := rfl
  have to1 := toNat_shiftLeft_or (n := 1) (bitWord_toNat s.schedValid) (bitWord_toNat s.busy) (by omega) (by omega)
  have to2 := toNat_shiftLeft_or (n := 2) (bitWord_toNat s.ovr) to1 (by omega) (by omega)
  have to7 := toNat_shiftLeft_or (n := 4) (hfield s.keyw) to2 (by omega) (by omega)
  have to15 := toNat_shiftLeft_or (n := 8) (hfield s.err.code) to7 (by omega) (by omega)
  have to31 := toNat_shiftLeft_or (n := 16) hnb to15 (by decide) (by omega)
  simp only [State.statusWord, BitVec.or_assoc]
  rw [to31]
  omega

/-- Settles O40: in the sum of `statusWord_toNat` each field is read back by division. -/
theorem statusWordHasItsLayout : Obligations.StatusWordHasItsLayout := by
  intro s
  have herr := s.err.code.isLt
  have hkeyw := s.keyw.isLt
  have hovr := s.ovr.toNat_lt
  have hvalid := s.schedValid.toNat_lt
  have hbusy := s.busy.toNat_lt
  simp only [getLsbD_eq_iff_toNat, extractLsb'_eq_iff_toNat, BitVec.extractLsb'_toNat, Nat.shiftRight_eq_div_pow,
    statusWord_toNat, Config.nb, BitVec.toNat_ofNat, Bool.toNat_false]
  refine ⟨?_, ?_, ?_, ?_, ?_, ?_, ?_, ?_, ?_⟩ <;> omega

/-! ### The outcome of a command word -/

theorem check_of_commandOp {i : Instr} {op : Op} (h : commandOp i = some op) (s : State) :
    check i s = if i.lenField = requiredLen op then stateCheck op s else .invalidInput := by
  simp only [check, h]

theorem check_keygen (s : State) :
    check (.keygen 16#16) s = if s.keyw = 0b1111#4 then .ok else .invalidInput := rfl

/-- The word-level check rejects reserved words first (R100). -/
theorem checkWord_of_reserved {v : Word} (h : 5 ≤ (cmdOp v).toNat ∨ cmdRsv v ≠ 0) (s : State) :
    checkWord v s = .illegalCmd := if_pos h

/-- The word-level check of a word whose OP and RSV are those of `op` (R100). -/
theorem checkWord_of_op {v : Word} (op : Op) (hr : cmdRsv v = 0) (ho : cmdOp v = op.code) (s : State) :
    checkWord v s = if cmdLen v = requiredLen op then stateCheck op s else .invalidInput := by
  rw [cmdRsv] at hr
  rw [cmdOp] at ho
  cases hv : s.schedValid <;> cases op <;>
    simp [checkWord, hr, ho, hv, cmdLen, Op.code, requiredLen, stateCheck, Config.nb, ← BitVec.toNat_inj]

/-- The check of the decoded command is the check of the word's bits (R100). -/
theorem check_decode (v : Word) (s : State) : check (decode v) s = checkWord v s := by
  rcases decode_cases v with ⟨hr, ho, hd⟩ | ⟨hr, ho, hd⟩ | ⟨hr, ho, hd⟩ | ⟨hr, ho, hd⟩ | ⟨hr, ho, hd⟩ | ⟨hres, hd⟩
  · rw [hd, check_of_commandOp rfl, checkWord_of_op .nop hr ho, Instr.lenField]
  · rw [hd, check_of_commandOp rfl, checkWord_of_op .keygen hr ho, Instr.lenField]
  · rw [hd, check_of_commandOp rfl, checkWord_of_op .encb hr ho, Instr.lenField]
  · rw [hd, check_of_commandOp rfl, checkWord_of_op .decb hr ho, Instr.lenField]
  · rw [hd, check_of_commandOp rfl, checkWord_of_op .sbox16 hr ho, Instr.lenField]
  · rw [hd, checkWord_of_reserved hres]
    rfl

/-! ### What the shared operations do to KEYW and ERR -/

/-- A host read changes no register of the CORE (R96). -/
@[simp] theorem hostRead_coreRegs (size : Nat) (off : Offset) (s : State) :
    (hostRead size off s).coreRegs = s.coreRegs := by
  rcases hostRead_cases size off s with ⟨v, h⟩ | ⟨b, h⟩ | ⟨-, h⟩ <;> simp [h]

@[simp] theorem hostRead_keyw (size : Nat) (off : Offset) (s : State) : (hostRead size off s).keyw = s.keyw :=
  congrArg CoreRegs.keyw (hostRead_coreRegs size off s)

@[simp] theorem hostRead_err (size : Nat) (off : Offset) (s : State) : (hostRead size off s).err = s.err :=
  congrArg CoreRegs.err (hostRead_coreRegs size off s)

/-- A 32-bit write of KEY[j] while no command is pending stores the word (R97). -/
theorem hostWrite_key {off : Offset} {j : Fin 4} {s : State} (hoff : off.toNat = 0x010 + 4 * j.val)
    (hb : s.busy = false) (v : Word) : hostWrite 4 off v s = .settled ((s.storeKey j v).answer .ack) := by
  have hloc : locate 4 off = .ok (.key j) := locate_eq_ok_iff.mpr ⟨rfl, hoff⟩
  simp [hostWrite, hloc, writeReg, hb]

theorem keywWith_getLsbD (keyw : BitVec 4) (j k : Fin 4) :
    (keywWith keyw j).getLsbD k.val = (keyw.getLsbD k.val || decide (k = j)) := by
  have hbit : (1#4 <<< j.val).getLsbD k.val = decide (k = j) := by revert j k; decide
  simp only [keywWith, BitVec.getLsbD_or, hbit]

/-- A CMD write leaves KEYW, whatever becomes of the command (R99). -/
@[simp] theorem cmdWrite_keyw (i : Instr) (s : State) : (cmdWrite i s).keyw = s.keyw := by
  rcases cmdWrite_cases i s with ⟨-, h⟩ | ⟨-, -, h⟩ | ⟨-, -, op, -, h⟩ <;> simp [h]

/-- A dropped command leaves ERR (R26). -/
theorem cmdWrite_err_of_busy {s : State} (hb : s.busy = true) (i : Instr) : (cmdWrite i s).err = s.err := by
  simp [cmdWrite, hb]

/-- A command that is not dropped leaves its outcome in ERR (R26). -/
theorem cmdWrite_err_of_not_busy {s : State} (hb : s.busy = false) (i : Instr) : (cmdWrite i s).err = check i s := by
  rcases cmdWrite_cases i s with ⟨hbusy, -⟩ | ⟨-, -, h⟩ | ⟨-, hc, op, -, h⟩
  · simp [hb] at hbusy
  · simp [h]
  · simp [h, hc]

/-- A completion leaves ERR (R26). -/
@[simp] theorem complete_err (op : Op) (s : State) : (complete op (effectOf op) s).err = s.err := by
  rcases complete_cases op (effectOf op) s with ⟨t, heff, h⟩ | ⟨-, h⟩
  · rcases effectOf_eq_some heff with ⟨-, rfl⟩ | ⟨-, mk, -, rfl⟩ | ⟨-, b, rfl⟩ | ⟨-, w, rfl⟩ <;> simp [h]
  · simp [h]

/-- The completion of any command but KEYGEN leaves KEYW (R25). -/
theorem complete_keyw_of_ne_keygen {op : Op} (hop : op ≠ .keygen) (s : State) :
    (complete op (effectOf op) s).keyw = s.keyw := by
  rcases complete_cases op (effectOf op) s with ⟨t, heff, h⟩ | ⟨-, h⟩
  · rcases effectOf_eq_some heff with ⟨-, rfl⟩ | ⟨hkeygen, -⟩ | ⟨-, b, rfl⟩ | ⟨-, w, rfl⟩
    · simp [h]
    · exact absurd hkeygen hop
    · simp [h]
    · simp [h]
  · simp [h]

/-- A completion of KEYGEN that ends the command consumes the key (R25, R84). -/
theorem complete_keygen_keyw {s : State} (hb : s.busy = true)
    (hdone : (complete .keygen (effectOf .keygen) s).busy = false) :
    (complete .keygen (effectOf .keygen) s).keyw = 0b0000#4 := by
  rcases complete_cases .keygen (effectOf .keygen) s with ⟨t, heff, h⟩ | ⟨-, h⟩
  · obtain ⟨mk, -, rfl⟩ := keygenEffect_eq_some_iff.mp heff
    simp [h]
  · simp [h, hb] at hdone

/-! ### Steps: KEYW -/

/-- A step has at most one next state. -/
theorem next_state_unique {o : Host.Outcome State Fault Refusal} {s t : State} (ht : o = .next t) (hs : o = .next s) :
    t = s :=
  Host.Outcome.next.inj (ht.symm.trans hs)

theorem step_keyw_of_keyWrite {s t : State} {j : Fin 4} {off : Offset} {v : Word} {rest : List Event}
    (hc : s.coreMoves = false) (hb : s.busy = false) (hoff : off.toNat = 0x010 + 4 * j.val)
    (hi : s.inbox = .access (.write 4 off v) :: rest) (hstep : step s = .next t) : t.keyw = keywWith s.keyw j := by
  have hw := hostWrite_key (s := s.pop rest) hoff hb v
  simp [next_state_unique hstep (step_write hc hi hw)]

theorem step_keyw_of_keygen {s t : State} (hc : s.coreMoves = true) (hp : s.pend = some .keygen)
    (hstep : step s = .next t) (hdone : t.busy = false) : t.keyw = 0b0000#4 := by
  obtain ⟨op, hop⟩ := coreMoves_iff.mp hc
  obtain ⟨-, hb, hpend, -⟩ := completing_iff.mp hop
  obtain rfl : op = .keygen := Option.some.inj (hpend.symm.trans hp)
  obtain rfl := next_state_unique hstep (step_completing hop)
  exact complete_keygen_keyw hb hdone

/-- KEYW is kept but by KEYGEN's completion, a reset and a key write (R25). -/
theorem step_keyw_frame {s t : State} (hstep : step s = .next t) :
    t.keyw = s.keyw ∨ (s.coreMoves = true ∧ s.pend = some .keygen) ∨
      (s.coreMoves = false ∧ ((∃ rest, s.inbox = .reset :: rest) ∨
        (s.busy = false ∧ ∃ (j : Fin 4) (off : Offset) (v : Word) (rest : List Event), off.toNat = 0x010 + 4 * j.val ∧
          s.inbox = .access (.write 4 off v) :: rest))) := by
  cases step_cases s with
  | completion op h heq =>
    by_cases hop : op = .keygen
    · obtain ⟨-, -, hpend, -⟩ := completing_iff.mp h
      exact .inr (.inl ⟨coreMoves_iff.mpr ⟨op, h⟩, hop ▸ hpend⟩)
    · exact .inl (by simp [next_state_unique hstep heq, complete_keyw_of_ne_keygen hop])
  | reset rest hc hi => exact .inr (.inr ⟨hc, .inl ⟨rest, hi⟩⟩)
  | storeKey j off v rest hc hb hi hoff => exact .inr (.inr ⟨hc, .inr ⟨hb, j, off, v, rest, hoff, hi⟩⟩)
  | idle _ _ heq => exact .inl (by simp [next_state_unique hstep heq])
  | read size off rest _ _ heq => exact .inl (by simp [next_state_unique hstep heq])
  | cmdWrite v rest _ _ heq => exact .inl (by simp [next_state_unique hstep heq])
  | busError size off v b rest _ _ _ heq => exact .inl (by simp [next_state_unique hstep heq])
  | storeBuf w off v rest _ _ _ _ heq => exact .inl (by simp [next_state_unique hstep heq])

/-- Settles O45: one lemma for each step that writes KEYW, and `step_keyw_frame` for the others. -/
theorem keywRecordsTheKeyWordsWritten : Obligations.KeywRecordsTheKeyWordsWritten := by
  refine ⟨rfl, fun s => by simp [check_keygen], fun s hk => by simp [check_keygen, hk],
    fun s t hstep => ⟨?_, ?_, ?_, step_keyw_frame hstep⟩⟩
  · intro j off v rest hc hb hoff hi k
    rw [step_keyw_of_keyWrite hc hb hoff hi hstep, keywWith_getLsbD]
  · exact fun hc hp hdone => step_keyw_of_keygen hc hp hstep hdone
  · intro rest hc hi
    simp [next_state_unique hstep (step_reset hc hi)]

/-! ### Steps: ERR -/

theorem step_err_of_cmdWrite {s t : State} {v : Word} {rest : List Event} (hc : s.coreMoves = false)
    (hb : s.busy = false) (hi : s.inbox = .access (.write 4 0x000#12 v) :: rest) (hstep : step s = .next t) :
    t.err = checkWord v s := by
  calc t.err = (cmdWrite (decode v) (s.pop rest)).err := by simp [next_state_unique hstep (step_cmdWrite hc hi)]
    _ = check (decode v) (s.pop rest) := cmdWrite_err_of_not_busy (s := s.pop rest) hb _
    _ = checkWord v (s.pop rest) := check_decode v _
    _ = checkWord v s := rfl

/-- ERR is kept but by a reset and a CMD write made while no command is pending (R26). -/
theorem step_err_frame {s t : State} (hstep : step s = .next t)
    (h : s.coreMoves = true ∨ ((s.busy = true ∨ ∀ v rest, s.inbox ≠ .access (.write 4 0x000#12 v) :: rest) ∧
      ∀ rest, s.inbox ≠ .reset :: rest)) : t.err = s.err := by
  cases step_cases s with
  | reset rest hc hi => simp [hc, hi] at h
  | cmdWrite v rest hc hi heq =>
    have hb : (s.pop rest).busy = true := by simpa [hc, hi] using h
    simp [next_state_unique hstep heq, cmdWrite_err_of_busy hb]
  | completion op _ heq => simp [next_state_unique hstep heq]
  | idle _ _ heq => simp [next_state_unique hstep heq]
  | read size off rest _ _ heq => simp [next_state_unique hstep heq]
  | busError size off v b rest _ _ _ heq => simp [next_state_unique hstep heq]
  | storeKey j off v rest _ _ _ _ heq => simp [next_state_unique hstep heq]
  | storeBuf w off v rest _ _ _ _ heq => simp [next_state_unique hstep heq]

/-- Settles O46: the CMD write by `step_err_of_cmdWrite`, the steps that leave ERR by `step_err_frame`. -/
theorem errIsTheLastOutcome : Obligations.ErrIsTheLastOutcome := by
  refine ⟨rfl, fun e => by cases e <;> decide, rfl, rfl, rfl, rfl, fun s t hstep => ⟨?_, ?_, step_err_frame hstep⟩⟩
  · exact fun v rest hc hb hi => step_err_of_cmdWrite hc hb hi hstep
  · intro rest hc hi
    simp [next_state_unique hstep (step_reset hc hi)]

end Sys2Proof.Machine
end

section
/-! PROOFS. The address checks of a host access (20_memory.md R42 to R44): the outcome of each check, the bus error it
raises on a read and on a write, and that a step in which the host moves takes exactly its next access. -/

namespace Sys2Proof.Machine

/-! ### The address checks -/

/-- The size check comes first (R43). -/
theorem locate_of_size_ne {size : Nat} {off : Offset} (hs : size ≠ 4) : locate size off = .error .size :=
  if_pos hs

/-- The alignment check comes second (R44). -/
theorem locate_of_misaligned {off : Offset} (h4 : off.toNat % 4 ≠ 0) : locate 4 off = .error .align := by
  simp [locate, h4]

/-- No register lies in the reserved ranges (R41). -/
theorem not_reservedOffset_offsetOf (r : WindowReg) : ¬ reservedOffset (offsetOf r) := by
  cases r with
  | cmd => decide
  | status => decide
  | key j => simp only [reservedOffset, offsetOf, Config.nb]; omega
  | rk i => simp only [reservedOffset, offsetOf, Config.nb]; omega
  | buf w =>
    have hw : w.val < 16 := w.isLt
    simp only [reservedOffset, offsetOf, Config.nb]; omega

theorem regAt_of_reservedOffset {off : Nat} (h4 : off % 4 = 0) (hres : reservedOffset off) : regAt off = none := by
  cases hr : regAt off with
  | none => rfl
  | some r =>
    rw [offsetOf_of_regAt h4 hr] at hres
    exact absurd hres (not_reservedOffset_offsetOf r)

/-- The mapping check comes last (R42). -/
theorem locate_of_reservedOffset {off : Offset} (h4 : off.toNat % 4 = 0) (hres : reservedOffset off.toNat) :
    locate 4 off = .error .unmapped := by
  simp [locate, h4, regAt_of_reservedOffset h4 hres]

/-! ### Host accesses that fail a check -/

theorem hostRead_of_locate_error {size : Nat} {off : Offset} {b : BusReason} (hl : locate size off = .error b)
    (s : State) : hostRead size off s = s.raiseBus b (.read size off) := by
  simp [hostRead, hl]

theorem hostWrite_of_locate_error {size : Nat} {off : Offset} {b : BusReason} (hl : locate size off = .error b)
    (v : Word) (s : State) : hostWrite size off v s = .settled (s.raiseBus b (.write size off v)) := by
  simp [hostWrite, hl]

/-! ### Steps that take a host access -/

theorem coreMoves_of_host {s : State} (h : s.turn = .host) : s.coreMoves = false := by
  simp [State.coreMoves, h]

@[simp] theorem hostRead_inbox (size : Nat) (off : Offset) (s : State) : (hostRead size off s).inbox = s.inbox := by
  rcases hostRead_cases size off s with ⟨v, h⟩ | ⟨b, h⟩ | ⟨-, h⟩ <;> simp [h]

/-- A CMD write takes no further event from the outside, whatever becomes of the command (R99). -/
@[simp] theorem cmdWrite_inbox (i : Instr) (s : State) : (cmdWrite i s).inbox = s.inbox := by
  rcases cmdWrite_cases i s with ⟨-, h⟩ | ⟨-, -, h⟩ | ⟨-, -, op, -, h⟩ <;> simp [h]

/-- Every access the host presents has a next state, and the step takes that access alone (R48). -/
theorem step_of_presents {s : State} {a : HostAccess} {rest : List Event} (hp : s.presents a rest) :
    ∃ t, step s = .next t ∧ t.inbox = rest := by
  obtain ⟨hturn, hi⟩ := hp
  have hc := coreMoves_of_host hturn
  cases a with
  | read size off => exact ⟨_, step_read hc hi, by simp⟩
  | write size off v =>
    rcases hostWrite_cases size off v (s.pop rest) with ⟨rfl, rfl, -⟩ | ⟨b, hw⟩ | ⟨-, -, j, -, hw⟩ | ⟨-, -, w, -, hw⟩
    · exact ⟨_, step_cmdWrite hc hi, by simp⟩
    · exact ⟨_, step_write hc hi hw, rfl⟩
    · exact ⟨_, step_write hc hi hw, rfl⟩
    · exact ⟨_, step_write hc hi hw, rfl⟩

/-- A read or a write that fails an address check is a bus error with the reason of that check (R106). -/
theorem step_of_locate_error {s : State} {a : HostAccess} {size : Nat} {off : Offset} {rest : List Event}
    {b : BusReason} (ha : a = .read size off ∨ ∃ v, a = .write size off v) (hp : s.presents a rest)
    (hl : locate size off = .error b) : step s = .next ((s.pop rest).raiseBus b a).arbitrate := by
  obtain ⟨hturn, hi⟩ := hp
  have hc := coreMoves_of_host hturn
  rcases ha with rfl | ⟨v, rfl⟩
  · rw [step_read hc hi, hostRead_of_locate_error hl]
  · exact step_write hc hi (hostWrite_of_locate_error hl v _)

/-- Settles O38: each clause is the outcome of one check of `locate`, which `step_of_locate_error` makes a bus error. -/
theorem addressChecksComeInOrder : Obligations.AddressChecksComeInOrder := by
  intro s a size off rest ha hp
  obtain ⟨t, hstep, hinbox⟩ := step_of_presents hp
  have hbus {b : BusReason} (hl : locate size off = .error b) :
      t.coreRegs = s.coreRegs ∧ t.reply = some .error ∧ t.faults = s.faults ++ [.busError b a] := by
    simp [next_state_unique hstep (step_of_locate_error ha hp hl)]
  refine ⟨t, hstep, hinbox, fun hs => hbus (locate_of_size_ne hs), ?_, ?_⟩
  · rintro rfl h4
    exact hbus (locate_of_misaligned h4)
  · rintro rfl h4 hres
    exact hbus (locate_of_reservedOffset h4 hres)

end Sys2Proof.Machine
end

section
/-! PROOFS. Decoding by mask and match (30_encoding.md R58): what a word with a row's match decodes to, and the outcome
of a wrong LEN. -/

namespace Sys2Proof.Machine

/-- The command of an operation with a declared LEN, right or wrong (R52, R58). -/
def Op.withLen : Op → BitVec 16 → Instr
  | .nop => .nop
  | .keygen => .keygen
  | .encb => .encb
  | .decb => .decb
  | .sbox16 => .sbox16

@[simp] theorem commandOp_withLen (op : Op) (len : BitVec 16) : commandOp (op.withLen len) = some op := by
  cases op <;> rfl

@[simp] theorem lenField_withLen (op : Op) (len : BitVec 16) : (op.withLen len).lenField = len := by
  cases op <;> rfl

/-- A word whose OP and RSV together are a row's match decodes to that row (R58). -/
theorem decode_of_cmdKey {w : Word} (op : Op) (h : cmdKey w = op.code.setWidth 32) :
    decode w = op.withLen (cmdLen w) := by
  cases op <;> simp [decode, h, Op.code, Op.withLen]

/-- A wrong LEN is found before any check of the state (R100). -/
theorem check_of_lenField_ne {i : Instr} {op : Op} (hop : commandOp i = some op) (hlen : i.lenField ≠ requiredLen op)
    (s : State) : check i s = .invalidInput := by
  rw [check_of_commandOp hop, if_neg hlen]

/-- The LEN check comes after decoding: a row's word keeps its LEN, and a wrong one is INVALID_INPUT (R58). -/
theorem decode_and_check_of_cmdKey (op : Op) {w : Word} (s : State) (h : cmdKey w = op.code.setWidth 32) :
    decode w = op.withLen (cmdLen w) ∧
      ((cmdLen w).toNat ≠ (requiredLen op).toNat → check (decode w) s = .invalidInput) := by
  have hd := decode_of_cmdKey op h
  refine ⟨hd, fun hne => check_of_lenField_ne (op := op) (by simp [hd]) ?_ s⟩
  rw [hd, lenField_withLen]
  exact fun heq => hne (congrArg BitVec.toNat heq)

/-- A word with no row's match decodes to the reserved row (R56, R58). -/
theorem decode_of_no_row {w : Word} (hnop : cmdKey w ≠ 0x0#32) (hkeygen : cmdKey w ≠ 0x1#32) (hencb : cmdKey w ≠ 0x2#32)
    (hdecb : cmdKey w ≠ 0x3#32) (hsbox16 : cmdKey w ≠ 0x4#32) :
    decode w = .reserved (cmdOp w) (cmdRsv w) (cmdLen w) := by
  rw [decode, if_neg hnop, if_neg hkeygen, if_neg hencb, if_neg hdecb, if_neg hsbox16]

/-- Settles O3: `decode_and_check_of_cmdKey` for each of the five rows, `decode_of_no_row` for every other word; the
canonical words by evaluation. -/
theorem decodeByMaskAndMatch : Obligations.DecodeByMaskAndMatch := by
  refine ⟨fun w s => ⟨decode_and_check_of_cmdKey .nop s, decode_and_check_of_cmdKey .keygen s,
    decode_and_check_of_cmdKey .encb s, decode_and_check_of_cmdKey .decb s, decode_and_check_of_cmdKey .sbox16 s, ?_⟩,
    by decide⟩
  rintro ⟨hnop, hkeygen, hencb, hdecb, hsbox16⟩
  rw [decode_of_no_row hnop hkeygen hencb hdecb hsbox16]
  rfl

end Sys2Proof.Machine
end

section
/-! PROOFS. Sums of rotations (40_tables.md R66, R67): every diffusion step of the spec is the xor of rotations of its
argument. Such a map is linear, and squaring it over GF(2) doubles each rotation, so on 2^n bits its 2^n-th iterate is the
identity if the number of rotations is odd: the ring argument of R66 as a computation. -/

namespace Sys2Proof.Machine

variable {w : Nat}

/-! ### Rotations -/

theorem rotl_eq_rotateLeft (x : Word) {k : Nat} (hk : k < 32) : rotl x k = x.rotateLeft k :=
  (BitVec.rotateLeft_eq_rotateLeftAux_of_lt hk).symm

theorem rotl8_eq_rotateLeft (x : Byte) {k : Nat} (hk : k < 8) : rotl8 x k = x.rotateLeft k :=
  (BitVec.rotateLeft_eq_rotateLeftAux_of_lt hk).symm

theorem rotateLeft_xor (x y : BitVec w) (k : Nat) :
    (x ^^^ y).rotateLeft k = x.rotateLeft k ^^^ y.rotateLeft k := by
  ext i hi
  simp only [BitVec.getElem_rotateLeft, BitVec.getElem_xor]
  split <;> rfl

theorem rotateLeft_rotateLeft (x : BitVec w) (j k : Nat) : (x.rotateLeft j).rotateLeft k = x.rotateLeft (j + k) := by
  ext i hi
  have hj : j % w < w := Nat.mod_lt _ (by omega)
  have hk : k % w < w := Nat.mod_lt _ (by omega)
  simp only [BitVec.getElem_rotateLeft, Nat.add_mod_eq_ite]
  split_ifs <;> congr 1 <;> omega

theorem rotateLeft_width_mul (x : BitVec w) (k : Nat) : x.rotateLeft (w * k) = x := by
  ext i hi
  simp [BitVec.getElem_rotateLeft]

@[simp] theorem rotateLeft_zero (x : BitVec w) : x.rotateLeft 0 = x := by
  simpa using rotateLeft_width_mul x 0

/-! ### Sums of rotations -/

/-- The sum (xor) of the rotations of a word to the left by the given amounts. -/
def rotSum : List Nat → BitVec w → BitVec w
  | [], _ => 0
  | k :: ks, x => x.rotateLeft k ^^^ rotSum ks x

theorem diffL_eq_rotSum : diffL = rotSum [0, 2, 10, 18, 24] := by
  funext b
  simp [diffL, rotSum, rotl_eq_rotateLeft, BitVec.xor_assoc]

theorem diffLp_eq_rotSum : diffLp = rotSum [0, 13, 23] := by
  funext t
  simp [diffLp, rotSum, rotl_eq_rotateLeft, BitVec.xor_assoc]

theorem affT_eq_rotSum : affT = rotSum [0, 1, 3, 6, 7] := by
  funext x
  simp [affT, rotSum, rotl8_eq_rotateLeft, BitVec.xor_assoc]

theorem rotSum_xor (ks : List Nat) (x y : BitVec w) : rotSum ks (x ^^^ y) = rotSum ks x ^^^ rotSum ks y := by
  induction ks with
  | nil => simp [rotSum]
  | cons k ks ih =>
    simp only [rotSum, rotateLeft_xor, ih]
    ac_rfl

theorem rotSum_zero (ks : List Nat) : rotSum ks (0 : BitVec w) = 0 := by
  simpa using rotSum_xor ks (0 : BitVec w) 0

theorem rotateLeft_rotSum (ks : List Nat) (x : BitVec w) (k : Nat) :
    (rotSum ks x).rotateLeft k = rotSum ks (x.rotateLeft k) := by
  induction ks with
  | nil => simp [rotSum, BitVec.rotateLeft_def]
  | cons j ks ih => rw [rotSum, rotateLeft_xor, ih, rotSum, rotateLeft_rotateLeft, rotateLeft_rotateLeft, Nat.add_comm]

/-- Squaring doubles the rotations: the mixed products come in pairs, which cancel. -/
theorem rotSum_rotSum_self (ks : List Nat) (x : BitVec w) : rotSum ks (rotSum ks x) = rotSum (ks.map (2 * ·)) x := by
  induction ks generalizing x with
  | nil => rfl
  | cons k ks ih =>
    calc rotSum (k :: ks) (rotSum (k :: ks) x)
        = (x.rotateLeft k).rotateLeft k ^^^ rotSum ks (rotSum ks x) ^^^
            (rotSum ks (x.rotateLeft k) ^^^ rotSum ks (x.rotateLeft k)) := by
          simp only [rotSum, rotateLeft_xor, rotSum_xor, rotateLeft_rotSum]
          ac_rfl
      _ = rotSum ((k :: ks).map (2 * ·)) x := by
          simp [ih, rotSum, rotateLeft_rotateLeft, two_mul]

theorem rotSum_iterate_two_pow (ks : List Nat) (n : Nat) (x : BitVec w) :
    (rotSum ks)^[2 ^ n] x = rotSum (ks.map (2 ^ n * ·)) x := by
  induction n generalizing x with
  | zero => simp
  | succ n ih =>
    have hmul : (2 * ·) ∘ (2 ^ n * ·) = ((2 ^ n + 2 ^ n) * · : Nat → Nat) := by
      funext k
      simp only [Function.comp_apply]
      ring
    rw [Nat.two_pow_succ, Function.iterate_add_apply, ih, ih, rotSum_rotSum_self, List.map_map, hmul]

/-- Rotations by multiples of the width leave the word as it is, and its copies cancel in pairs. -/
theorem rotSum_map_width_mul (ks : List Nat) (x : BitVec w) :
    rotSum (ks.map (w * ·)) x = if ks.length % 2 = 1 then x else 0 := by
  induction ks with
  | nil => rfl
  | cons k ks ih =>
    rw [List.map_cons, rotSum, ih, rotateLeft_width_mul, List.length_cons]
    obtain hks | hks := Nat.mod_two_eq_zero_or_one ks.length <;> simp [Nat.add_mod, hks]

/-- A sum of an odd number of rotations of 2^n bits is invertible: every word is periodic, with period 2^n. -/
theorem rotSum_bijective {n : Nat} {ks : List Nat} (hodd : ks.length % 2 = 1) :
    Function.Bijective (rotSum ks : BitVec (2 ^ n) → BitVec (2 ^ n)) := by
  have hperiod (x : BitVec (2 ^ n)) : Function.IsPeriodicPt (rotSum ks) (2 ^ n) x := by
    rw [Function.IsPeriodicPt, Function.IsFixedPt, rotSum_iterate_two_pow, rotSum_map_width_mul, if_pos hodd]
  have hall : Function.periodicPts (rotSum ks : BitVec (2 ^ n) → BitVec (2 ^ n)) = Set.univ :=
    Set.eq_univ_of_forall fun x => Function.mk_mem_periodicPts (by positivity) (hperiod x)
  rw [← Set.bijOn_univ, ← hall]
  exact Function.bijOn_periodicPts _

end Sys2Proof.Machine
end

section
/-! PROOFS. The diffusion steps (40_tables.md R66, R67) as sums of rotations, and the two substitution tables against
their algebraic forms (R62, R69, R75). -/

namespace Sys2Proof.Machine

/-! ### The diffusion steps -/

/-- Settles O27: L is a sum of five rotations of 32 = 2^5 bits. -/
theorem roundDiffusionIsLinearAndInvertible : Obligations.RoundDiffusionIsLinearAndInvertible := by
  refine ⟨fun _ => rfl, ?_⟩
  rw [diffL_eq_rotSum]
  exact ⟨rotSum_xor _, rotSum_zero _, rotSum_bijective (n := 5) rfl⟩

/-- Settles O28: Lp is a sum of three rotations of 32 = 2^5 bits. -/
theorem keyDiffusionIsLinearAndInvertible : Obligations.KeyDiffusionIsLinearAndInvertible := by
  refine ⟨fun _ => rfl, ?_⟩
  rw [diffLp_eq_rotSum]
  exact ⟨rotSum_xor _, rotSum_zero _, rotSum_bijective (n := 5) rfl⟩

/-! ### The substitution tables -/

/-- Settles O21: the tables are data, so they are compared at each of the 256 bytes, as R75 itself was checked. -/
theorem conjugationIsExact : Obligations.ConjugationIsExact := by
  unfold Obligations.ConjugationIsExact
  decide +kernel

/-- The foreign table entry by entry (R69); the inverse is evaluated once for each byte and checked along with it. -/
theorem aesSbox_eq_and_gfMul_invF : ∀ x : Byte,
    aesSbox x = affF (invF x) ^^^ 0x63#8 ∧ (x ≠ 0 → gfMul foreignPoly x (invF x) = 1) := by
  decide +kernel

/-- Settles O24, by `aesSbox_eq_and_gfMul_invF`. -/
theorem aesSboxHasItsAlgebraicForm : Obligations.AesSboxHasItsAlgebraicForm :=
  ⟨fun x => (aesSbox_eq_and_gfMul_invF x).left, by decide +kernel, fun x => (aesSbox_eq_and_gfMul_invF x).right⟩

/-- The target table entry by entry (R62); the inverse is evaluated once for each byte and checked along with it. -/
theorem sbox_eq_and_gfMul_invT : ∀ x : Byte,
    sbox x = affT (invT (affT x ^^^ 0xD3#8)) ^^^ 0xD3#8 ∧
      (affT x ^^^ 0xD3#8 ≠ 0 → gfMul targetPoly (affT x ^^^ 0xD3#8) (invT (affT x ^^^ 0xD3#8)) = 1) := by
  decide +kernel

/-- The affine map of R62 reaches every byte: a sum of five rotations of 8 = 2^3 bits. -/
theorem affT_xor_surjective (c y : Byte) : ∃ x, affT x ^^^ c = y := by
  have hsurj : Function.Surjective affT := affT_eq_rotSum ▸ (rotSum_bijective (n := 3) rfl).surjective
  obtain ⟨x, hx⟩ := hsurj (y ^^^ c)
  exact ⟨x, by rw [hx, BitVec.xor_assoc, BitVec.xor_self, BitVec.xor_zero]⟩

theorem gfMul_invT {y : Byte} (hy : y ≠ 0) : gfMul targetPoly y (invT y) = 1 := by
  obtain ⟨x, rfl⟩ := affT_xor_surjective 0xD3#8 y
  exact (sbox_eq_and_gfMul_invT x).right hy

/-- Settles O23: the table entry by entry, and every y of the inverse law as the affine image of an x. -/
theorem sboxHasItsAlgebraicForm : Obligations.SboxHasItsAlgebraicForm :=
  ⟨fun x => (sbox_eq_and_gfMul_invT x).left, by decide +kernel, fun _ => gfMul_invT⟩

end Sys2Proof.Machine
end

section
/-! PROOFS. The two backends of the Substitution Engine (41_substitution.md R79 to R82): the row permutations cancel, and
what is left in each lane is the affine conjugation of R75. -/

namespace Sys2Proof.Machine

/-- The first fact of R82: ShiftRows undoes the permutation of step (1) in every lane. -/
theorem isr_sr (i : Fin 16) : isr[sr[i]] = i := by
  decide +revert

theorem seTable_getElem (e : EngineReg) (i : Fin 16) : (seTable e)[i] = sbox e[i] := by
  simp [seTable]

/-- Lane i of the four steps of R81, read from the last to the first. -/
theorem seAes_getElem_conjugation (e : EngineReg) (i : Fin 16) :
    (seAes e)[i] = ata (aesSbox (ta e[isr[sr[i]]] ^^^ c1)) ^^^ c2 := by
  simp [seAes, aesEncLast]

theorem seAes_getElem (e : EngineReg) (i : Fin 16) : (seAes e)[i] = sbox e[i] := by
  simp only [seAes_getElem_conjugation, isr_sr]
  exact conjugationIsExact e[i]

theorem seAes_eq_seTable : seAes = seTable := by
  funext e
  ext i hi : 1
  exact (seAes_getElem e ⟨i, hi⟩).trans (seTable_getElem e ⟨i, hi⟩).symm

/-- No backend is left in the engine, so none in what is built on it. -/
theorem engine_eq_seTable (bk : Config.SubBackend) : engine bk = seTable := by
  cases bk with
  | aesConj => exact seAes_eq_seTable
  | table => rfl

theorem engineWords_backend (bk bk' : Config.SubBackend) : engineWords bk = engineWords bk' := by
  funext w
  rw [engineWords, engineWords, engine_eq_seTable, engine_eq_seTable]

theorem engineRound_backend {nb : Nat} (bk bk' : Config.SubBackend) :
    engineRound (nb := nb) bk = engineRound bk' := by
  funext x rk
  simp only [engineRound, roundNew, engineVec, engineWords_backend bk bk']

theorem cipherAt_backend {nb : Nat} (bk bk' : Config.SubBackend) (key : Nat → Word) (buf : Vector Word (4 * nb))
    (n : Nat) :
    cipherAt bk key buf n = cipherAt bk' key buf n := by
  induction n with
  | zero => rfl
  | succ n ih => rw [cipherAt, cipherAt, ih, engineRound_backend bk bk']

/-- Settles O20: the lanes by `seAes_getElem`, the word pass and the 32 rounds because they call the engine only. -/
theorem backendsAgree : Obligations.BackendsAgree := by
  refine ⟨fun e => ⟨congrFun seAes_eq_seTable e, seAes_getElem e⟩, ?_, ?_⟩
  · intro bk bk' w
    exact congrFun (engineWords_backend bk bk') w
  · intro nb bk bk' dir rk p
    exact congrArg transposeOut (cipherAt_backend bk bk' (roundKey dir rk) p 32)

end Sys2Proof.Machine
end

section
/-! PROOFS. The key schedule (42_key_schedule.md R84 to R86): the generator holds four consecutive words of the key-word
sequence, so the schedule is that sequence from its fifth word on; the completion of KEYGEN installs it. -/

namespace Sys2Proof.Machine

/-! ### The schedule as the key-word sequence -/

/-- A recursion step of the key-word sequence (R84). -/
theorem keyWordAt_add_four (mk : Vector Word 4) (i : Nat) :
    keyWordAt mk (i + 4) = keyWordAt mk i ^^^
      diffLp (tau (keyWordAt mk (i + 1) ^^^ keyWordAt mk (i + 2) ^^^ keyWordAt mk (i + 3) ^^^ ck i)) := rfl

/-- Before round `n` the generator holds k_n to k_(n+3) (R33, R84). -/
theorem ksgAt_eq_keyWordAt (mk : Vector Word 4) (n : Nat) :
    ksgAt mk n = ⟨keyWordAt mk n, keyWordAt mk (n + 1), keyWordAt mk (n + 2), keyWordAt mk (n + 3)⟩ := by
  induction n with
  | zero => rfl
  | succ n ih => rw [ksgAt, ih, ksgRound, ← keyWordAt_add_four]

/-- RK[i] is k_(i+4) (R84). -/
theorem schedule_getElem (mk : Vector Word 4) (i : Nat) (h : i < 32) : (schedule mk)[i] = keyWordAt mk (i + 4) := by
  rw [schedule, Vector.getElem_ofFn, ksgAt_eq_keyWordAt]

/-- Settles O31: each clause is one recursion step of the key-word sequence, at RK[i + 4] and at RK[0] to RK[3]. -/
theorem scheduleRecurrence : Obligations.ScheduleRecurrence := by
  intro mk
  simp only [schedule_getElem]
  exact ⟨fun i _ => keyWordAt_add_four mk (i + 4), keyWordAt_add_four mk 0, keyWordAt_add_four mk 1,
    keyWordAt_add_four mk 2, keyWordAt_add_four mk 3⟩

/-! ### The completion of KEYGEN -/

/-- The completion of KEYGEN on four key words installs their schedule, whatever the command's LEN (R84). -/
theorem exec_keygen_completing {s : State} {mk : Vector Word 4} (hs : s.completes .keygen) (hk : s.key = mk.map some)
    (len : BitVec 16) : exec (.keygen len) s = .next (s.installSchedule (schedule mk)).retire := by
  have heff : keygenEffect s = some (s.installSchedule (schedule mk)) := keygenEffect_eq_some_iff.mpr ⟨mk, hk, rfl⟩
  calc exec (.keygen len) s = .next (complete .keygen keygenEffect s) := runCommand_completing (completing_iff.mpr hs)
    _ = .next (s.installSchedule (schedule mk)).retire := by rw [complete, heff]

/-- Settles O32: both completions install `schedule mk`, which names no other part of the state. -/
theorem scheduleDependsOnTheKeyAlone : Obligations.ScheduleDependsOnTheKeyAlone := by
  intro s s' mk hs hs' hk hkey
  refine ⟨_, _, exec_keygen_completing hs hk _, exec_keygen_completing hs' (hkey.trans hk) _, ?_, fun i => ?_⟩
  · simp
  · simp

end Sys2Proof.Machine
end

section
/-! PROOFS. The Parallel Round Engine (43_round_engine.md R87 to R95): the engine pass is tau on every word, so the lane
registers hold four consecutive words of every block's own sequence, and a batch transform is the per-block function of
R93; that function with the round keys in the other order runs the sequence backwards. -/

namespace Sys2Proof.Machine

/-! ### The substitution pass on words -/

/-- Byte n of word m stands in lane 4m + n (R77). -/
theorem loadEngine_getElem (w : Vector Word 4) (m n : Fin 4) :
    (loadEngine w)[4 * m.val + n.val] = byteN n.val w[m] := by
  have hdiv : (4 * m.val + n.val) / 4 = m.val := by omega
  have hmod : (4 * m.val + n.val) % 4 = n.val := by omega
  simp [loadEngine, hdiv, hmod]

/-- An engine pass is tau on each of its four words, with either backend (R77, R79, R82). -/
theorem engineWords_getElem (bk : Config.SubBackend) (w : Vector Word 4) (m : Fin 4) :
    (engineWords bk w)[m] = tau w[m] := by
  have hlane : ∀ n : Fin 4, (engine bk (loadEngine w))[4 * m.val + n.val] = sbox (byteN n.val w[m]) := fun n => by
    rw [engine_eq_seTable, ← loadEngine_getElem]
    exact seTable_getElem _ ⟨4 * m.val + n.val, by omega⟩
  calc (engineWords bk w)[m]
    _ = be32 (engine bk (loadEngine w))[4 * m.val] (engine bk (loadEngine w))[4 * m.val + 1]
          (engine bk (loadEngine w))[4 * m.val + 2] (engine bk (loadEngine w))[4 * m.val + 3] := by
        simp [engineWords, unloadEngine]
    _ = tau w[m] := congr (congr (congr (congrArg be32 (hlane 0)) (hlane 1)) (hlane 2)) (hlane 3)

/-- `SE_W` is tau on every word: the don't-care lanes reach no result (R78). -/
theorem engineVec_getElem {n : Nat} (bk : Config.SubBackend) (v : Vector Word n) (b : Fin n) :
    (engineVec bk v)[b] = tau v[b] := by
  have hword : (engineGroup v (b.val / 4))[b.val % 4] = v[b] := by
    simp [engineGroup, Nat.div_add_mod]
  calc (engineVec bk v)[b]
    _ = (engineWords bk (engineGroup v (b.val / 4)))[b.val % 4] := by simp [engineVec]
    _ = tau (engineGroup v (b.val / 4))[b.val % 4] := engineWords_getElem bk _ ⟨b.val % 4, by omega⟩
    _ = tau v[b] := by rw [hword]

/-! ### The lane registers hold the blocks' sequences -/

/-- Word x_r of every block of a batch. -/
def blockWordLane {nb : Nat} (key : Nat → Word) (buf : Vector Word (4 * nb)) (r : Nat) : Vector Word nb :=
  Vector.ofFn fun b =>
    blockWordAt buf[4 * b.val] buf[4 * b.val + 1] buf[4 * b.val + 2] buf[4 * b.val + 3] key r

/-- Each new word is F of the block's last four words and the round key (R93). -/
theorem roundNew_getElem {nb : Nat} (bk : Config.SubBackend) (x : CipherState nb) (rk : Word) (b : Fin nb) :
    (roundNew bk x rk)[b] = feistelF x.x0[b] x.x1[b] x.x2[b] x.x3[b] rk := by
  calc (roundNew bk x rk)[b]
    _ = x.x0[b] ^^^ diffL (engineVec bk (roundMix x rk))[b] := by simp [roundNew]
    _ = x.x0[b] ^^^ diffL (tau (roundMix x rk)[b]) := by rw [engineVec_getElem]
    _ = feistelF x.x0[b] x.x1[b] x.x2[b] x.x3[b] rk := by simp [roundMix, feistelF]

/-- A round on the lanes of x_n to x_(n+3) makes the lane of x_(n+4) (R88). -/
theorem roundNew_blockWordLane {nb : Nat} (bk : Config.SubBackend) (key : Nat → Word) (buf : Vector Word (4 * nb))
    (n : Nat) :
    roundNew bk ⟨blockWordLane key buf n, blockWordLane key buf (n + 1), blockWordLane key buf (n + 2),
      blockWordLane key buf (n + 3)⟩ (key n) = blockWordLane key buf (n + 4) := by
  ext b hb : 1
  have hnew := roundNew_getElem bk ⟨blockWordLane key buf n, blockWordLane key buf (n + 1),
    blockWordLane key buf (n + 2), blockWordLane key buf (n + 3)⟩ (key n) ⟨b, hb⟩
  simpa [blockWordLane, blockWordAt] using hnew

/-- Before round `n` the lane registers hold x_n to x_(n+3) of every block (R88, R93). -/
theorem cipherAt_eq_blockWordLane {nb : Nat} (bk : Config.SubBackend) (key : Nat → Word) (buf : Vector Word (4 * nb))
    (n : Nat) :
    cipherAt bk key buf n = ⟨blockWordLane key buf n, blockWordLane key buf (n + 1), blockWordLane key buf (n + 2),
      blockWordLane key buf (n + 3)⟩ := by
  induction n with
  | zero => rfl
  | succ n ih => rw [cipherAt, ih, engineRound, roundNew_blockWordLane]

/-- The lanes leave in reverse order (R89). -/
theorem transposeOut_getElem {nb : Nat} (x : CipherState nb) (b : Fin nb) (j : Fin 4) :
    (transposeOut x)[4 * b.val + j.val] = #v[x.x3[b], x.x2[b], x.x1[b], x.x0[b]][j] := by
  have hdiv : (4 * b.val + j.val) / 4 = b.val := by omega
  have hmod : (4 * b.val + j.val) % 4 = j.val := by omega
  simp only [transposeOut, Vector.getElem_ofFn, hdiv, hmod]
  fin_cases j <;> rfl

/-- `CRYPT` puts x_(35-j) of a block at its word j (R93). -/
theorem cryptBatch_getElem {nb : Nat} (bk : Config.SubBackend) (dir : Dir) (rk : Vector Word 32)
    (p : Vector Word (4 * nb)) (b : Fin nb) (j : Fin 4) :
    (cryptBatch bk dir rk p)[4 * b.val + j.val] =
      blockWordAt p[4 * b.val] p[4 * b.val + 1] p[4 * b.val + 2] p[4 * b.val + 3] (roundKey dir rk) (35 - j.val) := by
  rw [cryptBatch, transposeOut_getElem, cipherAt_eq_blockWordLane]
  fin_cases j <;> simp [blockWordLane]

/-- The sequence begins with the block's four words (R93). -/
theorem blockWordAt_of_lt_four {nb : Nat} (p : Vector Word (4 * nb)) (b : Fin nb) (j : Fin 4) (key : Nat → Word) :
    blockWordAt p[4 * b.val] p[4 * b.val + 1] p[4 * b.val + 2] p[4 * b.val + 3] key j.val = p[4 * b.val + j.val] := by
  fin_cases j <;> rfl

/-! ### The round keys -/

/-- The sequence up to x_n reads the round keys before n - 3 only (R93). -/
theorem blockWordAt_congr_key (p0 p1 p2 p3 : Word) {key key' : Nat → Word} (n : Nat)
    (h : ∀ r, r + 4 ≤ n → key r = key' r) :
    blockWordAt p0 p1 p2 p3 key n = blockWordAt p0 p1 p2 p3 key' n := by
  induction n using blockWordAt.induct with
  | case1 | case2 | case3 | case4 => rfl
  | case5 n ih0 ih1 ih2 ih3 =>
    rw [blockWordAt, blockWordAt, ih0 fun r hr => h r (by omega), ih1 fun r hr => h r (by omega),
      ih2 fun r hr => h r (by omega), ih3 fun r hr => h r (by omega), h n le_rfl]

/-- σ(r) of R93 to encrypt. -/
theorem roundKey_enc (rk : Vector Word 32) {r : Nat} (h : r < 32) : roundKey .enc rk r = rk[r] := by
  simp [roundKey, keyIndex, Nat.mod_eq_of_lt h]

/-- σ(r) of R93 to decrypt. -/
theorem roundKey_dec (rk : Vector Word 32) {r : Nat} (h : r < 32) : roundKey .dec rk r = rk[31 - r] := by
  simp [roundKey, keyIndex, Nat.mod_eq_of_lt h]

/-- Settles O33: `cryptBatch_getElem`, with the 32 round keys it uses written out for each direction. -/
theorem cryptIsPerBlock : Obligations.CryptIsPerBlock := by
  intro nb bk dir rk p b j x0 x1 x2 x3 h0 h1 h2 h3
  obtain ⟨-, rfl⟩ := Vector.getElem?_eq_some_iff.mp h0
  obtain ⟨-, rfl⟩ := Vector.getElem?_eq_some_iff.mp h1
  obtain ⟨-, rfl⟩ := Vector.getElem?_eq_some_iff.mp h2
  obtain ⟨-, rfl⟩ := Vector.getElem?_eq_some_iff.mp h3
  rw [Vector.getElem?_eq_getElem (by omega), cryptBatch_getElem]
  refine congrArg some (blockWordAt_congr_key _ _ _ _ _ fun r hr => ?_)
  have hr32 : r < 32 := by omega
  cases dir with
  | enc => simp [roundKey_enc, hr32]
  | dec => simp [roundKey_dec, hr32]

/-- Settles O34: `cryptBatch_getElem` names the block's four words and the round keys only. -/
theorem blocksAreIndependent : Obligations.BlocksAreIndependent := by
  intro nb nb' bk bk' dir rk p p' b b' hp j
  have hword : ∀ k : Fin 4, p[4 * b.val + k.val] = p'[4 * b'.val + k.val] := fun k =>
    Option.some.inj (by rw [← Vector.getElem?_eq_getElem, ← Vector.getElem?_eq_getElem, hp k])
  rw [Vector.getElem?_eq_getElem (by omega), Vector.getElem?_eq_getElem (by omega), cryptBatch_getElem,
    cryptBatch_getElem]
  congr 2
  exacts [hword 0, hword 1, hword 2, hword 3]

/-! ### The round trip -/

/-- F with its last three words in the other order undoes itself. -/
theorem feistelF_feistelF (x0 x1 x2 x3 rk : Word) : feistelF (feistelF x0 x1 x2 x3 rk) x3 x2 x1 rk = x0 := by
  have hmix : x3 ^^^ x2 ^^^ x1 ^^^ rk = x1 ^^^ x2 ^^^ x3 ^^^ rk := by ac_rfl
  rw [feistelF, feistelF, hmix, BitVec.xor_assoc, BitVec.xor_self, BitVec.xor_zero]

/-- From x_35 to x_32 on, with the round keys in the other order, the sequence runs backwards (R95). -/
theorem blockWordAt_reverse (p0 p1 p2 p3 : Word) {key key' : Nat → Word} (hkey : ∀ r m, r + m = 31 → key' r = key m)
    (n m : Nat) (hnm : n + m = 35) :
    blockWordAt (blockWordAt p0 p1 p2 p3 key 35) (blockWordAt p0 p1 p2 p3 key 34) (blockWordAt p0 p1 p2 p3 key 33)
      (blockWordAt p0 p1 p2 p3 key 32) key' n = blockWordAt p0 p1 p2 p3 key m := by
  induction n using blockWordAt.induct generalizing m with
  | case1 | case2 | case3 | case4 =>
    obtain rfl : m = _ := Nat.eq_sub_of_add_eq' hnm
    rfl
  | case5 n ih0 ih1 ih2 ih3 =>
    rw [blockWordAt, ih0 (m + 4) (by omega), ih1 (m + 3) (by omega), ih2 (m + 2) (by omega), ih3 (m + 1) (by omega),
      hkey n m (by omega)]
    exact feistelF_feistelF _ _ _ _ _

/-- The other direction of a batch transform. -/
def Dir.opposite : Dir → Dir
  | .enc => .dec
  | .dec => .enc

/-- The two directions use the round keys in opposite orders (R93). -/
theorem roundKey_opposite (dir : Dir) (rk : Vector Word 32) (r m : Nat) (h : r + m = 31) :
    roundKey dir.opposite rk r = roundKey dir rk m := by
  have hr : r < 32 := by omega
  have hm : m < 32 := by omega
  cases dir with
  | enc => simp [Dir.opposite, roundKey_enc rk hm, roundKey_dec rk hr, ← h]
  | dec => simp [Dir.opposite, roundKey_enc rk hr, roundKey_dec rk hm, ← h]

/-- A batch transform in the opposite direction, on the same schedule, restores the batch (R95). -/
theorem cryptBatch_opposite {nb : Nat} (bk : Config.SubBackend) (dir : Dir) (rk : Vector Word 32)
    (p : Vector Word (4 * nb)) : cryptBatch bk dir.opposite rk (cryptBatch bk dir rk p) = p := by
  ext i hi : 1
  obtain ⟨b, j, rfl⟩ : ∃ (b : Fin nb) (j : Fin 4), i = 4 * b.val + j.val :=
    ⟨⟨i / 4, by omega⟩, ⟨i % 4, by omega⟩, by simp [Nat.div_add_mod]⟩
  have hreverse := blockWordAt_reverse p[4 * b.val] p[4 * b.val + 1] p[4 * b.val + 2] p[4 * b.val + 3]
    (roundKey_opposite dir rk) (35 - j.val) j.val (by omega)
  have h0 : (cryptBatch bk dir rk p)[4 * b.val] = _ := cryptBatch_getElem bk dir rk p b 0
  have h1 : (cryptBatch bk dir rk p)[4 * b.val + 1] = _ := cryptBatch_getElem bk dir rk p b 1
  have h2 : (cryptBatch bk dir rk p)[4 * b.val + 2] = _ := cryptBatch_getElem bk dir rk p b 2
  have h3 : (cryptBatch bk dir rk p)[4 * b.val + 3] = _ := cryptBatch_getElem bk dir rk p b 3
  rw [cryptBatch_getElem, h0, h1, h2, h3]
  exact hreverse.trans (blockWordAt_of_lt_four p b j _)

/-- The command of a batch transform (R91, R92). -/
def Dir.op : Dir → Op
  | .enc => .encb
  | .dec => .decb

/-- The completion of ENCB or DECB on a batch and a schedule of numbers replaces the batch, whatever the command's LEN
(R90 to R92). -/
theorem exec_crypt_completing {s : State} {dir : Dir} {rk : Vector Word 32} {p : Vector Word (4 * Config.nb)}
    (hs : s.completes dir.op) (hrk : s.rk = rk.map some) (hbuf : s.buf = p.map some) (len : BitVec 16) :
    exec (dir.op.withLen len) s = .next (s.installBatch (cryptBatch Config.subBackend dir rk p)).retire := by
  have heff : cryptEffect dir s = some (s.installBatch (cryptBatch Config.subBackend dir rk p)) :=
    cryptEffect_eq_some_iff.mpr ⟨p, rk, hbuf, hrk, rfl⟩
  have hrun : exec (dir.op.withLen len) s = runCommand (dir.op.withLen len) dir.op (cryptEffect dir) s := by
    cases dir <;> rfl
  rw [hrun, runCommand_completing (completing_iff.mpr hs), complete, heff]

/-- After one direction's completion, the completion of the other restores BUF if BUF and RK were left alone (R95). -/
theorem exec_opposite_restores_buf {s : State} {rk : Vector Word 32} {p : Vector Word (4 * Config.nb)}
    (hrk : s.rk = rk.map some) (hbuf : s.buf = p.map some) (len len' : BitVec 16) (dir : Dir)
    (hs : s.completes dir.op) :
    ∃ t : State, exec (dir.op.withLen len) s = .next t ∧
      ∀ u : State, u.completes dir.opposite.op → u.rk = t.rk → u.buf = t.buf →
        ∃ v : State, exec (dir.opposite.op.withLen len') u = .next v ∧ v.buf = s.buf := by
  refine ⟨_, exec_crypt_completing hs hrk hbuf len, fun u hu hurk hubuf => ?_⟩
  refine ⟨_, exec_crypt_completing hu (hurk.trans hrk) hubuf len', ?_⟩
  simp [cryptBatch_opposite, hbuf]

/-- Settles O35: `exec_opposite_restores_buf` from each of the two directions. -/
theorem decryptionUndoesEncryption : Obligations.DecryptionUndoesEncryption := by
  intro s len len' rk p hrk hbuf
  exact ⟨exec_opposite_restores_buf hrk hbuf len len' .enc, exec_opposite_restores_buf hrk hbuf len len' .dec⟩

end Sys2Proof.Machine
end

section
/-! PROOFS. The host's 32-bit reads and writes (44_host_commands.md R96, R97) and the check of a command word (R100):
what each register answers or stores, and the step that takes the access. -/

namespace Sys2Proof.Machine

/-! ### The check of a command word -/

/-- Settles O5: the six cases of the decoder, each compared with the word's bits in `check_decode`. -/
theorem checkFollowsWordLevelChecks : Obligations.CheckFollowsWordLevelChecks := check_decode

/-! ### Accesses at a register's offset -/

theorem hostRead_of_offsetOf {off : Offset} {r : WindowReg} (hoff : off.toNat = offsetOf r) (s : State) :
    hostRead 4 off s = readReg r (.read 4 off) s := by
  simp [hostRead, locate_eq_ok_iff.mpr ⟨rfl, hoff⟩]

theorem hostWrite_of_offsetOf {off : Offset} {r : WindowReg} (hoff : off.toNat = offsetOf r) (v : Word) (s : State) :
    hostWrite 4 off v s = writeReg r v (.write 4 off v) s := by
  simp [hostWrite, locate_eq_ok_iff.mpr ⟨rfl, hoff⟩]

theorem step_readReg {s : State} {off : Offset} {rest : List Event} {r : WindowReg}
    (hp : s.presents (.read 4 off) rest) (hoff : off.toNat = offsetOf r) :
    step s = .next (readReg r (.read 4 off) (s.pop rest)).arbitrate := by
  rw [step_read (coreMoves_of_host hp.1) hp.2, hostRead_of_offsetOf hoff]

theorem step_writeReg {s t : State} {off : Offset} {v : Word} {rest : List Event} {r : WindowReg}
    (hp : s.presents (.write 4 off v) rest) (hoff : off.toNat = offsetOf r)
    (hw : writeReg r v (.write 4 off v) (s.pop rest) = .settled t) : step s = .next t.arbitrate :=
  step_write (coreMoves_of_host hp.1) hp.2 ((hostWrite_of_offsetOf hoff v _).trans hw)

/-- A 32-bit write at CMD's offset runs the decoded word (R97, R99). -/
theorem step_exec_of_presents {s : State} {v : Word} {rest : List Event} (hp : s.presents (.write 4 0x000#12 v) rest) :
    step s = settle (exec (decode v) (s.pop rest)) := by
  simp [step, nextWork_host (coreMoves_of_host hp.1), hostWork, hp.2, hostWrite_cmd]

/-! ### What each register answers (R96) -/

/-- While BUSY, only CMD and STATUS can be read (R96, R98). -/
theorem readReg_of_busy {r : WindowReg} {s : State} (hcmd : r ≠ .cmd) (hstatus : r ≠ .status) (hb : s.busy = true)
    (a : HostAccess) : readReg r a s = s.raiseBus .busy a := by
  cases r with
  | cmd => contradiction
  | status => contradiction
  | key j => exact if_pos hb
  | rk i => exact if_pos hb
  | buf w => exact if_pos hb

theorem readReg_key {s : State} (hb : s.busy = false) (j : Fin 4) (a : HostAccess) :
    readReg (.key j) a s = s.answer (.data 0) := by
  simp [readReg, hb]

theorem readReg_rk_of_none {s : State} {i : Fin 32} (hb : s.busy = false) (h : s.rk[i] = none) (a : HostAccess) :
    readReg (.rk i) a s = s.raiseNoValueRead a := by
  simp only [readReg, hb, h, Bool.false_eq_true, if_false]

theorem readReg_rk_of_some {s : State} {i : Fin 32} {v : Word} (hb : s.busy = false) (h : s.rk[i] = some v)
    (a : HostAccess) : readReg (.rk i) a s = s.answer (.data v) := by
  simp only [readReg, hb, h, Bool.false_eq_true, if_false]

theorem readReg_buf_of_none {s : State} {w : Fin (4 * Config.nb)} (hb : s.busy = false) (h : s.buf[w] = none)
    (a : HostAccess) : readReg (.buf w) a s = s.raiseNoValueRead a := by
  simp only [readReg, hb, h, Bool.false_eq_true, if_false]

theorem readReg_buf_of_some {s : State} {w : Fin (4 * Config.nb)} {v : Word} (hb : s.busy = false)
    (h : s.buf[w] = some v) (a : HostAccess) : readReg (.buf w) a s = s.answer (.data v) := by
  simp only [readReg, hb, h, Bool.false_eq_true, if_false]

/-- Settles O36: `step_readReg` gives the state after a read of each register, and the `readReg` lemmas say what that
state holds. -/
theorem hostReadsFollowTheirRule : Obligations.HostReadsFollowTheirRule := by
  intro s off rest hp
  obtain ⟨t, hstep, hinbox⟩ := step_of_presents hp
  have hcore : t.coreRegs = s.coreRegs := by
    simp [next_state_unique hstep (step_read (coreMoves_of_host hp.1) hp.2)]
  have hanswers {r : WindowReg} {v : Word} (hoff : off.toNat = offsetOf r)
      (hread : readReg r (.read 4 off) (s.pop rest) = (s.pop rest).answer (.data v)) :
      t.reply = some (.data v) ∧ t.faults = s.faults := by
    simp [next_state_unique hstep (step_readReg hp hoff), hread]
  have hbusy {r : WindowReg} (hoff : off.toNat = offsetOf r) (hcmd : r ≠ .cmd) (hstatus : r ≠ .status)
      (hb : s.busy = true) : t.reply = some .error ∧ t.faults = s.faults ++ [.busError .busy (.read 4 off)] := by
    have hread := readReg_of_busy (s := s.pop rest) hcmd hstatus hb (.read 4 off)
    simp [next_state_unique hstep (step_readReg hp hoff), hread]
  have hnoValue {r : WindowReg} (hoff : off.toNat = offsetOf r)
      (hread : readReg r (.read 4 off) (s.pop rest) = (s.pop rest).raiseNoValueRead (.read 4 off)) :
      t.reply = some .noValue ∧ t.faults = s.faults ++ [.noValueRead (.read 4 off)] := by
    simp [next_state_unique hstep (step_readReg hp hoff), hread]
  refine ⟨t, hstep, hcore, hinbox, fun hoff => hanswers (r := .cmd) hoff rfl,
    fun hoff => hanswers (r := .status) hoff rfl, ?_, ?_, ?_⟩
  · intro j hoff
    exact ⟨hbusy (r := .key j) hoff nofun nofun,
      fun hb => hanswers (r := .key j) hoff (readReg_key (s := s.pop rest) hb j _)⟩
  · intro i hoff
    exact ⟨hbusy (r := .rk i) hoff nofun nofun,
      fun hb h => hnoValue (r := .rk i) hoff (readReg_rk_of_none (s := s.pop rest) hb h _),
      fun v hb h => hanswers (r := .rk i) hoff (readReg_rk_of_some (s := s.pop rest) hb h _)⟩
  · intro w hoff
    exact ⟨hbusy (r := .buf w) hoff nofun nofun,
      fun hb h => hnoValue (r := .buf w) hoff (readReg_buf_of_none (s := s.pop rest) hb h _),
      fun v hb h => hanswers (r := .buf w) hoff (readReg_buf_of_some (s := s.pop rest) hb h _)⟩

/-! ### What each register stores (R97) -/

theorem writeReg_key_of_busy {s : State} (hb : s.busy = true) (j : Fin 4) (v : Word) (a : HostAccess) :
    writeReg (.key j) v a s = .settled (s.raiseBus .busy a) := by
  simp [writeReg, hb]

theorem writeReg_key {s : State} (hb : s.busy = false) (j : Fin 4) (v : Word) (a : HostAccess) :
    writeReg (.key j) v a s = .settled ((s.storeKey j v).answer .ack) := by
  simp [writeReg, hb]

theorem writeReg_buf_of_busy {s : State} (hb : s.busy = true) (w : Fin (4 * Config.nb)) (v : Word) (a : HostAccess) :
    writeReg (.buf w) v a s = .settled (s.raiseBus .busy a) := by
  simp [writeReg, hb]

theorem writeReg_buf {s : State} (hb : s.busy = false) (w : Fin (4 * Config.nb)) (v : Word) (a : HostAccess) :
    writeReg (.buf w) v a s = .settled ((s.storeBuf w v).answer .ack) := by
  simp [writeReg, hb]

/-- Settles O37: `step_exec_of_presents` for CMD; for every other register `step_writeReg` gives the state after the
write, which the `writeReg` lemmas make a bus error or a store. -/
theorem hostWritesFollowTheirRule : Obligations.HostWritesFollowTheirRule := by
  intro s off v rest hp
  obtain ⟨t, hstep, hinbox⟩ := step_of_presents hp
  have hbus {r : WindowReg} {b : BusReason} (hoff : off.toNat = offsetOf r)
      (hw : writeReg r v (.write 4 off v) (s.pop rest) = .settled ((s.pop rest).raiseBus b (.write 4 off v))) :
      t.coreRegs = s.coreRegs ∧ t.reply = some .error ∧ t.faults = s.faults ++ [.busError b (.write 4 off v)] := by
    simp [next_state_unique hstep (step_writeReg hp hoff hw)]
  have hstores {r : WindowReg} (u : State) (hoff : off.toNat = offsetOf r)
      (hw : writeReg r v (.write 4 off v) (s.pop rest) = .settled (u.answer .ack)) :
      t.coreRegs = u.coreRegs ∧ t.reply = some .ack ∧ t.faults = u.faults := by
    simp [next_state_unique hstep (step_writeReg hp hoff hw)]
  refine ⟨?_, t, hstep, hinbox, fun hoff => hbus (r := .status) hoff rfl, fun i hoff => hbus (r := .rk i) hoff rfl,
    ?_, ?_⟩
  · intro hoff
    obtain rfl : off = 0x000#12 := BitVec.eq_of_toNat_eq hoff
    exact step_exec_of_presents hp
  · intro j hoff
    exact ⟨fun hb => hbus (r := .key j) hoff (writeReg_key_of_busy (s := s.pop rest) hb j v _),
      fun hb => hstores (r := .key j) ((s.pop rest).storeKey j v) hoff (writeReg_key (s := s.pop rest) hb j v _)⟩
  · intro w hoff
    exact ⟨fun hb => hbus (r := .buf w) hoff (writeReg_buf_of_busy (s := s.pop rest) hb w v _),
      fun hb => hstores (r := .buf w) ((s.pop rest).storeBuf w v) hoff (writeReg_buf (s := s.pop rest) hb w v _)⟩

end Sys2Proof.Machine
end

section
/-! PROOFS. The round trip of command words (30_encoding.md R52 to R58): a word is its three fields, and the decoder reads
a row from OP and RSV and keeps LEN. -/

namespace Sys2Proof.Machine

/-- A word has the match of `op`'s row exactly when RSV is 0 and OP is the opcode (R58). -/
theorem cmdKey_eq_code_iff (w : Word) (op : Op) :
    cmdKey w = op.code.setWidth 32 ↔ cmdRsv w = 0 ∧ cmdOp w = op.code :=
  cmdKey_eq_iff w _ _ (BitVec.toNat_setWidth_of_le (by decide))

@[simp] theorem opField_withLen (op : Op) (len : BitVec 16) : (op.withLen len).opField = op.code := by
  cases op <;> rfl

@[simp] theorem rsvField_withLen (op : Op) (len : BitVec 16) : (op.withLen len).rsvField = 0 := by
  cases op <;> rfl

@[simp] theorem cmdOp_encode (i : Instr) : cmdOp (encode i) = i.opField := (cmdWord_fields _ _ _).1

@[simp] theorem cmdRsv_encode (i : Instr) : cmdRsv (encode i) = i.rsvField := (cmdWord_fields _ _ _).2.1

@[simp] theorem cmdLen_encode (i : Instr) : cmdLen (encode i) = i.lenField := (cmdWord_fields _ _ _).2.2

/-! ### Decoding an encoded command -/

theorem decode_encode_withLen (op : Op) (len : BitVec 16) : decode (encode (op.withLen len)) = op.withLen len := by
  have hkey : cmdKey (encode (op.withLen len)) = op.code.setWidth 32 := by simp [cmdKey_eq_code_iff]
  rw [decode_of_cmdKey op hkey, cmdLen_encode, lenField_withLen]

/-- A word whose OP or RSV is reserved has no row's match (R55, R56). -/
theorem cmdKey_ne_code {w : Word} (h : 5 ≤ (cmdOp w).toNat ∨ cmdRsv w ≠ 0) (op : Op) :
    cmdKey w ≠ op.code.setWidth 32 := by
  intro hkey
  obtain ⟨hrsv, hop⟩ := (cmdKey_eq_code_iff w op).mp hkey
  have hcode : op.code.toNat < 5 := by cases op <;> decide
  rcases h with h | h
  · rw [hop] at h
    omega
  · exact h hrsv

theorem decode_of_reserved {w : Word} (h : 5 ≤ (cmdOp w).toNat ∨ cmdRsv w ≠ 0) :
    decode w = .reserved (cmdOp w) (cmdRsv w) (cmdLen w) :=
  decode_of_no_row (cmdKey_ne_code h .nop) (cmdKey_ne_code h .keygen) (cmdKey_ne_code h .encb) (cmdKey_ne_code h .decb)
    (cmdKey_ne_code h .sbox16)

theorem decode_encode_reserved {op : BitVec 4} {rsv : BitVec 12} (len : BitVec 16) (h : 5 ≤ op.toNat ∨ rsv ≠ 0) :
    decode (encode (.reserved op rsv len)) = .reserved op rsv len := by
  have hres : 5 ≤ (cmdOp (encode (.reserved op rsv len))).toNat ∨ cmdRsv (encode (.reserved op rsv len)) ≠ 0 := by
    simpa [Instr.opField, Instr.rsvField] using h
  rw [decode_of_reserved hres, cmdOp_encode, cmdRsv_encode, cmdLen_encode]
  rfl

/-- Settles O1: a row of the table by `decode_encode_withLen`, a reserved word by `decode_encode_reserved`. -/
theorem decodeOfEncode : Obligations.DecodeOfEncode := by
  intro i hwf
  cases i with
  | nop len => exact decode_encode_withLen .nop len
  | keygen len => exact decode_encode_withLen .keygen len
  | encb len => exact decode_encode_withLen .encb len
  | decb len => exact decode_encode_withLen .decb len
  | sbox16 len => exact decode_encode_withLen .sbox16 len
  | reserved op rsv len => exact decode_encode_reserved len (by simpa [Instr.wellFormed] using hwf)

/-! ### Encoding a decoded word -/

/-- The word of a command with a word's three fields is that word (R52). -/
theorem encode_eq_of_fields {i : Instr} {w : Word} (hop : cmdOp w = i.opField) (hrsv : cmdRsv w = i.rsvField)
    (hlen : cmdLen w = i.lenField) : encode i = w := by
  rw [encode, ← hop, ← hrsv, ← hlen, cmdWord_of_fields]

/-- Settles O2: in each case of the decoder the command has the word's fields. -/
theorem encodeOfDecode : Obligations.EncodeOfDecode := by
  intro w
  rcases decode_cases w with ⟨hr, ho, hd⟩ | ⟨hr, ho, hd⟩ | ⟨hr, ho, hd⟩ | ⟨hr, ho, hd⟩ | ⟨hr, ho, hd⟩ | ⟨hres, hd⟩
  · exact hd ▸ ⟨rfl, encode_eq_of_fields ho hr rfl⟩
  · exact hd ▸ ⟨rfl, encode_eq_of_fields ho hr rfl⟩
  · exact hd ▸ ⟨rfl, encode_eq_of_fields ho hr rfl⟩
  · exact hd ▸ ⟨rfl, encode_eq_of_fields ho hr rfl⟩
  · exact hd ▸ ⟨rfl, encode_eq_of_fields ho hr rfl⟩
  · exact hd ▸ ⟨by simpa [Instr.wellFormed] using hres, encode_eq_of_fields rfl rfl rfl⟩

/-- Settles O4: the nine words are closed terms, so the decoder is evaluated on them. -/
theorem sampleWordsDecode : Obligations.SampleWordsDecode := by
  unfold Obligations.SampleWordsDecode
  decide

end Sys2Proof.Machine
end

section
/-! PROOFS. A command word at the CMD write (44_host_commands.md R99, R100): dropped, rejected or accepted, as a rule of
the write, of `exec` and of a step. -/

namespace Sys2Proof.Machine

/-! ### The three outcomes of a CMD write, each under its condition -/

theorem cmdWrite_of_busy {s : State} (hb : s.busy = true) (i : Instr) : cmdWrite i s = s.overrun.answer .ack := by
  simp [cmdWrite, hb]

theorem cmdWrite_of_check_ne_ok {i : Instr} {s : State} (hb : s.busy = false) (hc : check i s ≠ .ok) :
    cmdWrite i s = (s.reject (check i s)).answer .ack := by
  rcases cmdWrite_cases i s with ⟨hbusy, -⟩ | ⟨-, -, h⟩ | ⟨-, hok, -⟩
  · simp [hb] at hbusy
  · exact h
  · exact absurd hok hc

theorem cmdWrite_of_check_ok {i : Instr} {op : Op} {s : State} (hb : s.busy = false) (hop : commandOp i = some op)
    (hc : check i s = .ok) : cmdWrite i s = (s.accept op).answer .ack := by
  simp [cmdWrite, hb, hop, hc]

/-- A rejected word's write, with its outcome in hand (R99). -/
theorem cmdWrite_of_check_eq {i : Instr} {s : State} {e : ErrCode} (hb : s.busy = false) (hc : check i s = e)
    (he : e ≠ .ok) : cmdWrite i s = (s.reject e).answer .ack := by
  subst hc
  exact cmdWrite_of_check_ne_ok hb he

@[simp] theorem commandOp_command (op : Op) : commandOp op.command = some op := by
  cases op <;> rfl

/-- A command in its accepted form has the right LEN, so only the state is checked (R58, R100). -/
theorem check_command (op : Op) (s : State) : check op.command s = stateCheck op s := by
  cases op <;> rfl

theorem opField_of_commandOp {i : Instr} {op : Op} (h : commandOp i = some op) : i.opField = op.code := by
  cases i <;> cases h <;> rfl

/-- The word of a command that is no reserved word has the operation's opcode in its OP field (R53). -/
theorem code_of_commandOp_decode {v : Word} {op : Op} (h : commandOp (decode v) = some op) : op.code = cmdOp v := by
  calc op.code = (decode v).opField := (opField_of_commandOp h).symm
    _ = cmdOp (encode (decode v)) := (cmdOp_encode _).symm
    _ = cmdOp v := congrArg cmdOp (encodeOfDecode v).2

/-! ### Steps that take a CMD write -/

/-- Settles O6: `step_exec_of_presents` at the host's turn, the CORE's turn by the work of the step. -/
theorem stepRunsDecodedCommand : Obligations.StepRunsDecodedCommand := by
  refine ⟨fun s v rest hp => step_exec_of_presents hp, fun s op hs => ?_, fun t => rfl⟩
  simp [step, nextWork_completing (completing_iff.mpr hs)]

/-- Settles O7: the three outcomes of `cmdWrite_cases`, whose check is that of the word's bits. -/
theorem cmdWriteAcceptsRejectsOrDrops : Obligations.CmdWriteAcceptsRejectsOrDrops := by
  intro s v rest hp
  refine ⟨_, step_cmdWrite (coreMoves_of_host hp.1) hp.2, ?_⟩
  have hcheck : check (decode v) (s.pop rest) = checkWord v s := check_decode v _
  rcases cmdWrite_cases (decode v) (s.pop rest) with ⟨hb, h⟩ | ⟨hb, hc, h⟩ | ⟨hb, hc, op, hop, h⟩
  all_goals
    rw [pop_busy] at hb
    rw [h]
  · exact ⟨rfl, rfl, rfl, fun _ => rfl, by simp [hb], by simp [hb]⟩
  · rw [hcheck] at hc ⊢
    exact ⟨rfl, rfl, rfl, by simp [hb], fun _ _ => rfl, fun _ hok => absurd hok hc⟩
  · rw [hcheck] at hc
    exact ⟨rfl, rfl, rfl, by simp [hb], fun _ hne => absurd hc hne,
      fun _ _ => ⟨op, code_of_commandOp_decode hop, rfl⟩⟩

/-! ### Presented commands -/

/-- Settles O8: the hypotheses are the state's checks of each operation, so the CMD write accepts. -/
theorem commandsAreAccepted : Obligations.CommandsAreAccepted := by
  intro s op ⟨hturn, hb⟩ hkey hsched
  have hstate : stateCheck op s = .ok := by
    cases op with
    | nop => rfl
    | keygen => exact if_pos (hkey rfl)
    | encb => exact if_pos (hsched (.inl rfl))
    | decb => exact if_pos (hsched (.inr rfl))
    | sbox16 => rfl
  rw [exec_presented hturn, cmdWrite_of_check_ok hb (commandOp_command op) ((check_command op s).trans hstate)]
  rfl

/-- A presented command whose check fails only changes ERR and OVR (R99). -/
theorem exec_rejected {i : Instr} {s : State} {e : ErrCode} (hs : s.idle) (hc : check i s = e) (he : e ≠ .ok) :
    exec i s = .next { s with err := e, ovr := false, reply := some .ack } := by
  rw [exec_presented hs.1, cmdWrite_of_check_eq hs.2 hc he]
  rfl

/-- Settles O9: a reserved word is never pending, so `exec` is its CMD write, whose check fails first. -/
theorem reservedWordIsRejected : Obligations.ReservedWordIsRejected := by
  intro op rsv len s hb
  rw [exec, execReserved, cmdWrite_of_check_eq (e := .illegalCmd) hb rfl (by decide)]
  rfl

/-- A wrong LEN is rejected, whatever the state's keys and schedule are (R54, R100). -/
theorem exec_withLen_of_wrong_length {s : State} {op : Op} {len : BitVec 16} (hs : s.idle)
    (hlen : len.toNat ≠ (requiredLen op).toNat) :
    exec (op.withLen len) s = .next { s with err := .invalidInput, ovr := false, reply := some .ack } := by
  have hne : (op.withLen len).lenField ≠ requiredLen op := fun h => hlen (by rw [← h, lenField_withLen])
  exact exec_rejected hs (check_of_lenField_ne (commandOp_withLen op len) hne s) (by decide)

/-- Settles O10: `exec_withLen_of_wrong_length` for each of the five commands. -/
theorem wrongLengthIsRejected : Obligations.WrongLengthIsRejected := by
  intro s len hs
  exact ⟨exec_withLen_of_wrong_length (op := .nop) hs, exec_withLen_of_wrong_length (op := .keygen) hs,
    exec_withLen_of_wrong_length (op := .encb) hs, exec_withLen_of_wrong_length (op := .decb) hs,
    exec_withLen_of_wrong_length (op := .sbox16) hs⟩

/-- Settles O11: the state's check of the operation fails. -/
theorem missingKeyOrScheduleIsRejected : Obligations.MissingKeyOrScheduleIsRejected := by
  intro s hs
  refine ⟨fun hkeyw => ?_, fun hsched => ⟨?_, ?_⟩⟩
  · exact exec_rejected hs ((check_command .keygen s).trans (if_neg hkeyw)) (by decide)
  · exact exec_rejected hs ((check_command .encb s).trans (by simp [stateCheck, hsched])) (by decide)
  · exact exec_rejected hs ((check_command .decb s).trans (by simp [stateCheck, hsched])) (by decide)

/-- Settles O12: at the host's turn `exec` is the CMD write, which a pending command makes an overrun. -/
theorem commandWhileBusyIsDropped : Obligations.CommandWhileBusyIsDropped := by
  intro i s hturn hb
  rw [exec_presented hturn, cmdWrite_of_busy hb]
  rfl

end Sys2Proof.Machine
end

section
/-! PROOFS. The completions (41_substitution.md R83, 42_key_schedule.md R84, 43_round_engine.md R90 to R93,
44_host_commands.md R101, R102): the effect of each command on operands that are numbers, and what a completion that meets
⊥ leaves (60_exceptions.md R107). -/

namespace Sys2Proof.Machine

/-- At the CORE's turn `exec` of the pending command runs its effect, whatever the command's LEN (R101). -/
theorem exec_withLen_completing {s : State} {op : Op} (hs : s.completes op) (len : BitVec 16) :
    exec (op.withLen len) s = .next (complete op (effectOf op) s) := by
  have hc := completing_iff.mpr hs
  cases op <;> exact runCommand_completing hc

/-- A completion with its operands in hand ends the command after its effect (R101). -/
theorem complete_of_effect {op : Op} {effect : State → Option State} {s t : State} (h : effect s = some t) :
    complete op effect s = t.retire := by
  rw [complete, h]

/-- A completion without its operands records the model fault (R107). -/
theorem complete_of_no_effect {op : Op} {effect : State → Option State} {s : State} (h : effect s = none) :
    complete op effect s = s.raiseNoValueCompletion op := by
  rw [complete, h]

/-! ### NOP and KEYGEN -/

/-- Settles O13: NOP's effect is none of the state, so its completion only ends. -/
theorem nopCompletes : Obligations.NopCompletes :=
  fun _ len hs => (exec_withLen_completing (op := .nop) hs len).trans (congrArg _ (complete_of_effect rfl))

/-- Settles O14: the completion installs the schedule, which is the key-word sequence from its fifth word on. -/
theorem keygenCompletes : Obligations.KeygenCompletes :=
  fun _ len mk hs hk => ⟨schedule mk, exec_keygen_completing hs hk len, fun i => schedule_getElem mk i i.isLt⟩

/-! ### ENCB and DECB -/

/-- The completion of ENCB or DECB, block by block, with any function `key` that gives the round keys of the direction
(R90, R93). -/
theorem exec_crypt_blockwise {s : State} {dir : Dir} {rk : Vector Word 32} {p : Vector Word (4 * Config.nb)}
    (hs : s.completes dir.op) (hrk : s.rk = rk.map some) (hbuf : s.buf = p.map some) (len : BitVec 16)
    {key : Nat → Word} (hkey : ∀ r, r < 32 → roundKey dir rk r = key r) :
    ∃ q : Vector Word (4 * Config.nb),
      exec (dir.op.withLen len) s = .next { s with buf := q.map some, pend := none, busy := false } ∧
      ∀ (b : Fin Config.nb) (j : Fin 4), q[4 * b.val + j.val] =
        blockWordAt p[4 * b.val] p[4 * b.val + 1] p[4 * b.val + 2] p[4 * b.val + 3] key (35 - j.val) := by
  refine ⟨_, exec_crypt_completing hs hrk hbuf len, fun b j => ?_⟩
  rw [cryptBatch_getElem]
  exact blockWordAt_congr_key _ _ _ _ _ fun r hr => hkey r (by omega)

/-- Settles O15: the round keys in order. -/
theorem encbCompletes : Obligations.EncbCompletes := by
  intro s len rk p hs hrk hbuf
  exact exec_crypt_blockwise (dir := .enc) hs hrk hbuf len fun r hr => by rw [roundKey_enc rk hr, dif_pos hr]

/-- Settles O16: the round keys in the other order. -/
theorem decbCompletes : Obligations.DecbCompletes := by
  intro s len rk p hs hrk hbuf
  exact exec_crypt_blockwise (dir := .dec) hs hrk hbuf len fun r hr => roundKey_dec rk hr

/-! ### SBOX16 -/

/-- The completion of SBOX16 on numbers in its four words (R83). -/
theorem exec_sbox16_completing {s : State} {w : Vector Word 4} (hs : s.completes .sbox16)
    (hw : ∀ m : Fin 4, s.buf[m.val] = some w[m]) (len : BitVec 16) :
    exec (.sbox16 len) s = .next (s.installFirst (engineWords Config.subBackend w)).retire := by
  have hfirst : (Vector.ofFn fun m : Fin 4 => s.buf[m.val]) = w.map some := by
    ext1 i hi
    simpa using hw ⟨i, hi⟩
  have heff : sboxEffect s = some (s.installFirst (engineWords Config.subBackend w)) :=
    sboxEffect_eq_some_iff.mpr ⟨w, hfirst, rfl⟩
  exact (exec_withLen_completing (op := .sbox16) hs len).trans (congrArg _ (complete_of_effect heff))

/-- Settles O17: the engine pass is tau on each of the four words, and the others are kept. -/
theorem sbox16Completes : Obligations.Sbox16Completes := by
  intro s len w hs hw
  refine ⟨_, exec_sbox16_completing hs hw len, fun m => ?_, fun k hk => ?_⟩
  · have htau : (engineWords Config.subBackend w)[m.val] = tau w[m] := engineWords_getElem _ w m
    simp [htau]
  · have hge : ¬ k.val < 4 := by omega
    simp [hge]

/-! ### Completions that meet ⊥ -/

theorem keygenEffect_eq_none_iff {s : State} : keygenEffect s = none ↔ ∃ j : Fin 4, s.key[j] = none := by
  rw [keygenEffect, Option.map_eq_none_iff, State.keyOperand, numbers_eq_none_iff]

theorem cryptEffect_eq_none {dir : Dir} {s : State}
    (h : (∃ w : Fin (4 * Config.nb), s.buf[w] = none) ∨ ∃ i : Fin 32, s.rk[i] = none) : cryptEffect dir s = none := by
  unfold cryptEffect State.batchOperand State.scheduleOperand
  split
  · rename_i hb hrk
    rcases h with h | h
    · simp [numbers_eq_none_iff.mpr h] at hb
    · simp [numbers_eq_none_iff.mpr h] at hrk
  · rfl

theorem sboxEffect_eq_none_iff {s : State} : sboxEffect s = none ↔ ∃ m : Fin 4, s.buf[m.val] = none := by
  rw [sboxEffect, Option.map_eq_none_iff, State.sboxOperand, numbers_eq_none_iff]
  simp

/-- A completion without its operands only records the fault and is stuck (R107, R109). -/
theorem exec_withLen_of_no_effect {s : State} {op : Op} (hs : s.completes op) (h : effectOf op s = none)
    (len : BitVec 16) :
    exec (op.withLen len) s = .next { s with faults := s.faults ++ [.noValueCompletion op], stuck := true } := by
  rw [exec_withLen_completing hs, complete_of_no_effect h]
  rfl

/-- Settles O18: in each clause an operand holds ⊥, so the command has no effect. -/
theorem completionWithoutValueWritesNothing : Obligations.CompletionWithoutValueWritesNothing := by
  intro s len
  refine ⟨fun hs h => ?_, fun hs h => ?_, fun hs h => ?_, fun hs h => ?_⟩
  · exact exec_withLen_of_no_effect hs (keygenEffect_eq_none_iff.mpr h) len
  · exact exec_withLen_of_no_effect hs (cryptEffect_eq_none (dir := .enc) h) len
  · exact exec_withLen_of_no_effect hs (cryptEffect_eq_none (dir := .dec) h) len
  · exact exec_withLen_of_no_effect hs (sboxEffect_eq_none_iff.mpr h) len

end Sys2Proof.Machine
end

section
/-! PROOFS. The field isomorphism and the engine maps (40_tables.md R70 to R74): products in both fields and M are sums over
bits, so two such maps agree as soon as they agree on the eight one-bit bytes; the permutation facts of R61 and R70, and
the engine pass on words (41_substitution.md R78). -/

namespace Sys2Proof.Machine

/-! ### Maps that respect sums -/

/-- A map of bytes that respects exclusive-or. -/
def XorLinear (f : Byte → Byte) : Prop := ∀ x y, f (x ^^^ y) = f x ^^^ f y

theorem XorLinear.comp {f g : Byte → Byte} (hf : XorLinear f) (hg : XorLinear g) : XorLinear (f ∘ g) := by
  intro x y
  simp only [Function.comp_apply, hg x y, hf (g x) (g y)]

theorem XorLinear.map_zero {f : Byte → Byte} (hf : XorLinear f) : f 0 = 0 := by
  simpa using hf 0 0

/-- A byte is the sum of its lowest bit and of a byte that ends in 0, and so on: the sum of its bits. -/
theorem byte_eq_sum_of_bits : ∀ x : Byte, x =
    (List.range 8).foldr (fun k y => (if x.getLsbD k then BitVec.twoPow 8 k else 0) ^^^ y) 0 := by
  decide +kernel

theorem XorLinear.map_sum {f : Byte → Byte} (hf : XorLinear f) (ks : List Nat) (g : Nat → Byte) :
    f (ks.foldr (fun k y => g k ^^^ y) 0) = ks.foldr (fun k y => f (g k) ^^^ y) 0 := by
  induction ks with
  | nil => exact hf.map_zero
  | cons k ks ih => rw [List.foldr_cons, hf, ih, List.foldr_cons]

/-- Two maps that respect sums are equal if they agree on every one-bit byte. -/
theorem XorLinear.eq_of_bits {f g : Byte → Byte} (hf : XorLinear f) (hg : XorLinear g)
    (h : ∀ k : Fin 8, f (BitVec.twoPow 8 k) = g (BitVec.twoPow 8 k)) (x : Byte) : f x = g x := by
  have hbit : ∀ k ∈ List.range 8, f (if x.getLsbD k then BitVec.twoPow 8 k else 0) =
      g (if x.getLsbD k then BitVec.twoPow 8 k else 0) := by
    intro k hk
    split
    · exact h ⟨k, List.mem_range.mp hk⟩
    · rw [hf.map_zero, hg.map_zero]
  rw [byte_eq_sum_of_bits x, hf.map_sum, hg.map_sum]
  exact List.foldr_ext _ _ _ fun k hk y => by rw [hbit k hk]

/-! ### Products and M respect sums -/

theorem ite_xor (a b : Bool) (c : Byte) :
    (if (a ^^ b) = true then c else 0) = (if a = true then c else 0) ^^^ (if b = true then c else 0) := by
  cases a <;> cases b <;> simp

theorem xtime_xor (poly a b : Byte) : xtime poly (a ^^^ b) = xtime poly a ^^^ xtime poly b := by
  simp only [xtime, BitVec.shiftLeft_xor_distrib, BitVec.msb_xor, ite_xor]
  ac_rfl

theorem gfMulBits_xor_left (poly : Byte) (n : Nat) (a a' b : Byte) :
    gfMulBits poly n (a ^^^ a') b = gfMulBits poly n a b ^^^ gfMulBits poly n a' b := by
  induction n generalizing a a' b with
  | zero => simp [gfMulBits]
  | succ n ih =>
    rw [gfMulBits, gfMulBits, gfMulBits, xtime_xor, ih]
    split
    · ac_rfl
    · simp

theorem gfMulBits_xor_right (poly : Byte) (n : Nat) (a b b' : Byte) :
    gfMulBits poly n a (b ^^^ b') = gfMulBits poly n a b ^^^ gfMulBits poly n a b' := by
  induction n generalizing a b b' with
  | zero => simp [gfMulBits]
  | succ n ih =>
    rw [gfMulBits, gfMulBits, gfMulBits, BitVec.ushiftRight_xor_distrib, ih, BitVec.getLsbD_xor, ite_xor]
    ac_rfl

theorem xorLinear_gfMul_left (poly b : Byte) : XorLinear (gfMul poly · b) :=
  fun a a' => gfMulBits_xor_left poly 8 a a' b

theorem xorLinear_gfMul_right (poly a : Byte) : XorLinear (gfMul poly a) :=
  gfMulBits_xor_right poly 8 a

theorem xorLinear_iso : XorLinear iso := by
  intro x y
  simp only [iso, isoColumns, List.zipIdx_cons, List.zipIdx_nil, List.map_cons, List.map_nil, List.foldl_cons,
    List.foldl_nil, BitVec.getLsbD_xor, ite_xor]
  ac_rfl

theorem xorLinear_affT : XorLinear affT := by
  rw [affT_eq_rotSum]
  exact rotSum_xor _

theorem affF_eq_rotSum : affF = rotSum [0, 1, 2, 3, 4] := by
  funext b
  simp [affF, rotSum, rotl8_eq_rotateLeft, BitVec.xor_assoc]

theorem xorLinear_affF : XorLinear affF := by
  rw [affF_eq_rotSum]
  exact rotSum_xor _

/-! ### The isomorphism -/

/-- M respects products: both sides respect sums in each factor, and they agree on the powers of x (R74). -/
theorem iso_gfMul (x y : Byte) : iso (gfMul targetPoly x y) = gfMul foreignPoly (iso x) (iso y) := by
  have hbits : ∀ j k : Fin 8, iso (gfMul targetPoly (BitVec.twoPow 8 j) (BitVec.twoPow 8 k)) =
      gfMul foreignPoly (iso (BitVec.twoPow 8 j)) (iso (BitVec.twoPow 8 k)) := by
    decide +kernel
  have hright (j : Fin 8) : iso (gfMul targetPoly (BitVec.twoPow 8 j) y) =
      gfMul foreignPoly (iso (BitVec.twoPow 8 j)) (iso y) :=
    (xorLinear_iso.comp (xorLinear_gfMul_right targetPoly _)).eq_of_bits
      ((xorLinear_gfMul_right foreignPoly _).comp xorLinear_iso) (hbits j) y
  exact (xorLinear_iso.comp (xorLinear_gfMul_left targetPoly y)).eq_of_bits
    ((xorLinear_gfMul_left foreignPoly (iso y)).comp xorLinear_iso) hright x

/-- TA is the target's affine map carried to the foreign field (R74). -/
theorem ta_eq_iso_affT : ∀ x : Byte, ta x = iso (affT x) := by
  decide +kernel

/-- ATA takes the foreign affine map of M's image back to the target's affine map (R74). -/
theorem ata_affF_iso : ∀ x : Byte, ata (affF (iso x)) = affT x := by
  decide +kernel

/-- Settles O25: products by `iso_gfMul`, the tables entry by entry. -/
theorem isomorphismGivesTheEngineMaps : Obligations.IsomorphismGivesTheEngineMaps :=
  ⟨iso_gfMul, xorLinear_iso, ta_eq_iso_affT, by decide, ata_affF_iso, by decide⟩

/-! ### The engine maps -/

theorem xorLinear_ta : XorLinear ta := by
  rw [show ta = iso ∘ affT from funext ta_eq_iso_affT]
  exact xorLinear_iso.comp xorLinear_affT

theorem affT_bijective : Function.Bijective affT := affT_eq_rotSum ▸ rotSum_bijective (n := 3) rfl

/-- Every byte is a foreign affine image of M's: ATA leads back to the bijection A. -/
theorem affF_iso_surjective : Function.Surjective (affF ∘ iso) := by
  refine Finite.injective_iff_surjective.mp (Function.Injective.of_comp (f := ata) ?_)
  rw [show ata ∘ affF ∘ iso = affT from funext ata_affF_iso]
  exact affT_bijective.injective

/-- ATA respects sums, since on the images of `affF ∘ iso` it is A. -/
theorem xorLinear_ata : XorLinear ata := by
  intro y z
  obtain ⟨x, rfl⟩ := affF_iso_surjective y
  obtain ⟨x', rfl⟩ := affF_iso_surjective z
  rw [← xorLinear_affF.comp xorLinear_iso x x']
  simp only [Function.comp_apply, ata_affF_iso]
  exact xorLinear_affT x x'

/-- Settles O26: linearity as above, and the four nibble tables entry by entry. -/
theorem engineMapsAreLinear : Obligations.EngineMapsAreLinear :=
  ⟨fun x y => ⟨xorLinear_ta x y, xorLinear_ata x y⟩, by decide +kernel, xorLinear_ta.map_zero, xorLinear_ata.map_zero⟩

/-! ### Permutations -/

/-- The place of SBOX[x] in the table is x: no entry occurs twice (R61). -/
theorem idxOf_sbox : ∀ x : Byte, (sboxRows.flatten.map BitVec.toNat).idxOf (sbox x).toNat = x.toNat := by
  decide +kernel

theorem sbox_injective : Function.Injective sbox := fun x y h =>
  BitVec.eq_of_toNat_eq (by rw [← idxOf_sbox x, h, idxOf_sbox y])

/-- Settles O29: an injection of the 256 bytes is a bijection; the fixed point by the table's entries. -/
theorem sboxIsAPermutationWithOneFixedPoint : Obligations.SboxIsAPermutationWithOneFixedPoint :=
  ⟨Finite.injective_iff_bijective.mp sbox_injective, by decide +kernel⟩

/-- Settles O30: the permutations cancel in every lane, and the zero key changes nothing. -/
theorem shiftRowsIsUndone : Obligations.ShiftRowsIsUndone := by
  refine ⟨fun i => ⟨isr_sr i, by decide +revert⟩, fun e => ?_⟩
  ext i hi : 1
  simpa [aesEncLast] using congrArg (fun k : Fin 16 => aesSbox e[k]) (isr_sr ⟨i, hi⟩)

/-! ### The engine on words -/

/-- Settles O22: `engineVec_getElem` at every word. -/
theorem engineAppliesTauToEveryWord : Obligations.EngineAppliesTauToEveryWord := by
  intro n bk v
  ext1 i hi
  exact (engineVec_getElem bk v ⟨i, hi⟩).trans (Vector.getElem_map tau hi).symm

end Sys2Proof.Machine
end

section
/-! PROOFS. Which steps write each register (10_state.md R21 to R23, R30, R31, R39): what the shared operations leave
unchanged, and from the cases of a step the writers of BUSY, SCHED_VALID, OVR, RK, BUF and `FAULTS`. -/

namespace Sys2Proof.Machine

/-! ### What the shared operations leave unchanged -/

/-- A host read leaves every field but the reply and `FAULTS` (R96). -/
@[simp] theorem hostRead_frame (size : Nat) (off : Offset) (s : State) :
    (hostRead size off s).busy = s.busy ∧ (hostRead size off s).schedValid = s.schedValid ∧
      (hostRead size off s).ovr = s.ovr ∧ (hostRead size off s).key = s.key ∧ (hostRead size off s).rk = s.rk ∧
      (hostRead size off s).buf = s.buf ∧ (hostRead size off s).pend = s.pend ∧ (hostRead size off s).stuck = s.stuck ∧
      (hostRead size off s).waited = s.waited ∧ (hostRead size off s).accepted = s.accepted := by
  rcases hostRead_cases size off s with ⟨v, h⟩ | ⟨b, h⟩ | ⟨-, h⟩ <;> simp [h]

/-- A CMD write leaves the data registers and `FAULTS`, and in OVR whether a command was pending (R23, R99). -/
@[simp] theorem cmdWrite_frame (i : Instr) (s : State) :
    (cmdWrite i s).schedValid = s.schedValid ∧ (cmdWrite i s).key = s.key ∧ (cmdWrite i s).rk = s.rk ∧
      (cmdWrite i s).buf = s.buf ∧ (cmdWrite i s).faults = s.faults ∧ (cmdWrite i s).stuck = s.stuck ∧
      (cmdWrite i s).reply = some .ack ∧ (cmdWrite i s).ovr = s.busy := by
  rcases cmdWrite_cases i s with ⟨hb, h⟩ | ⟨hb, -, h⟩ | ⟨hb, -, op, -, h⟩ <;> simp [h, hb]

/-- All that a completion can do (R83, R84, R90, R102, R107). -/
theorem complete_effectOf_cases (op : Op) (s : State) :
    (op = .nop ∧ complete op (effectOf op) s = s.retire) ∨
    (op = .keygen ∧ ∃ mk : Vector Word 4, s.key = mk.map some ∧
      complete op (effectOf op) s = (s.installSchedule (schedule mk)).retire) ∨
    ((op = .encb ∨ op = .decb) ∧ ∃ b, complete op (effectOf op) s = (s.installBatch b).retire) ∨
    (op = .sbox16 ∧ ∃ w, complete op (effectOf op) s = (s.installFirst w).retire) ∨
    (effectOf op s = none ∧ complete op (effectOf op) s = s.raiseNoValueCompletion op) := by
  rcases complete_cases op (effectOf op) s with ⟨t, heff, h⟩ | hnone
  · rcases effectOf_eq_some heff with ⟨hop, rfl⟩ | ⟨hop, mk, hk, rfl⟩ | ⟨hop, b, rfl⟩ | ⟨hop, w, rfl⟩
    · exact .inl ⟨hop, h⟩
    · exact .inr (.inl ⟨hop, mk, hk, h⟩)
    · exact .inr (.inr (.inl ⟨hop, b, h⟩))
    · exact .inr (.inr (.inr (.inl ⟨hop, w, h⟩)))
  · exact .inr (.inr (.inr (.inr hnone)))

@[simp] theorem complete_ovr (op : Op) (s : State) : (complete op (effectOf op) s).ovr = s.ovr := by
  rcases complete_effectOf_cases op s with ⟨-, h⟩ | ⟨-, mk, -, h⟩ | ⟨-, b, h⟩ | ⟨-, w, h⟩ | ⟨-, h⟩ <;> simp [h]

/-- A completion clears BUSY, or is stuck with its fault (R101, I13). -/
theorem complete_busy_or_stuck (op : Op) (s : State) :
    (complete op (effectOf op) s).busy = false ∨ (complete op (effectOf op) s).stuck = true := by
  rcases complete_cases op (effectOf op) s with ⟨t, -, h⟩ | ⟨-, h⟩ <;> simp [h]

/-- The completion of any command but KEYGEN leaves the schedule (R22, R30). -/
theorem complete_schedule_of_ne_keygen {op : Op} (hop : op ≠ .keygen) (s : State) :
    (complete op (effectOf op) s).rk = s.rk ∧ (complete op (effectOf op) s).schedValid = s.schedValid := by
  rcases complete_effectOf_cases op s with ⟨-, h⟩ | ⟨hkeygen, -⟩ | ⟨-, b, h⟩ | ⟨-, w, h⟩ | ⟨-, h⟩
  · simp [h]
  · exact absurd hkeygen hop
  · simp [h]
  · simp [h]
  · simp [h]

/-- The completion of KEYGEN never clears SCHED_VALID (R22). -/
theorem complete_keygen_schedValid (s : State) :
    (complete .keygen (effectOf .keygen) s).schedValid = s.schedValid ∨
      (complete .keygen (effectOf .keygen) s).schedValid = true := by
  rcases complete_cases .keygen (effectOf .keygen) s with ⟨t, heff, h⟩ | ⟨-, h⟩
  · obtain ⟨mk, -, rfl⟩ := keygenEffect_eq_some_iff.mp heff
    simp [h]
  · simp [h]

/-- A completion writes a buffer word only for ENCB, DECB and, in the first block, SBOX16 (R83, R90). -/
theorem complete_buf_getElem (op : Op) (s : State) (w : Fin (4 * Config.nb)) :
    (complete op (effectOf op) s).buf[w] = s.buf[w] ∨ op = .encb ∨ op = .decb ∨ (op = .sbox16 ∧ w.val < 4) := by
  rcases complete_effectOf_cases op s with ⟨-, h⟩ | ⟨-, mk, -, h⟩ | ⟨hop, -⟩ | ⟨hop, v, h⟩ | ⟨-, h⟩
  · exact .inl (by rw [h, retire_buf])
  · exact .inl (by rw [h, retire_buf, installSchedule_buf])
  · exact .inr (hop.imp_right .inl)
  · by_cases hw : w.val < 4
    · exact .inr (.inr (.inr ⟨hop, hw⟩))
    · exact .inl (by simp [h, hw])
  · exact .inl (by rw [h, raiseNoValueCompletion_buf])

theorem hostRead_faults_prefix (size : Nat) (off : Offset) (s : State) : s.faults <+: (hostRead size off s).faults := by
  rcases hostRead_cases size off s with ⟨v, h⟩ | ⟨b, h⟩ | ⟨-, h⟩ <;> simp [h]

theorem complete_faults_prefix (op : Op) (s : State) : s.faults <+: (complete op (effectOf op) s).faults := by
  rcases complete_effectOf_cases op s with ⟨-, h⟩ | ⟨-, mk, -, h⟩ | ⟨-, b, h⟩ | ⟨-, w, h⟩ | ⟨-, h⟩ <;> simp [h]

/-! ### The writers of each register -/

theorem busy_of_coreMoves {s : State} (h : s.coreMoves = true) : s.busy = true := by
  obtain ⟨op, hop⟩ := coreMoves_iff.mp h
  exact (completing_iff.mp hop).2.1

/-- At the CORE's turn the step is the completion of the command in PEND (R101). -/
theorem step_of_coreMoves {s t : State} (hc : s.coreMoves = true) (hstep : step s = .next t) :
    ∃ op, s.pend = some op ∧ t = (complete op (effectOf op) s).arbitrate := by
  obtain ⟨op, hop⟩ := coreMoves_iff.mp hc
  exact ⟨op, (completing_iff.mp hop).2.2.1, next_state_unique hstep (step_completing hop)⟩

/-- BUSY is kept but by a completion, a reset and an accepted CMD write (R21). -/
theorem step_busy_frame {s t : State} (hstep : step s = .next t) :
    t.busy = s.busy ∨ s.coreMoves = true ∨
      (s.coreMoves = false ∧ (∃ rest, s.inbox = .reset :: rest) ∧ t.busy = false) ∨
      (s.busy = false ∧ ∃ v rest, s.inbox = .access (.write 4 0x000#12 v) :: rest ∧ checkWord v s = .ok) := by
  cases step_cases s with
  | completion op h => exact .inr (.inl (coreMoves_iff.mpr ⟨op, h⟩))
  | reset rest hc hi heq => exact .inr (.inr (.inl ⟨hc, ⟨rest, hi⟩, by simp [next_state_unique hstep heq]⟩))
  | cmdWrite v rest hc hi heq =>
    obtain rfl := next_state_unique hstep heq
    have hcheck : check (decode v) (s.pop rest) = checkWord v s := check_decode v _
    rcases cmdWrite_cases (decode v) (s.pop rest) with ⟨-, h⟩ | ⟨-, -, h⟩ | ⟨hb, hok, -⟩
    · exact .inl (by simp [h])
    · exact .inl (by simp [h])
    · exact .inr (.inr (.inr ⟨hb, v, rest, hi, hcheck ▸ hok⟩))
  | idle _ _ heq | read _ _ _ _ _ heq | busError _ _ _ _ _ _ _ _ heq | storeKey _ _ _ _ _ _ _ _ heq
  | storeBuf _ _ _ _ _ _ _ _ heq =>
    exact .inl (by simp [next_state_unique hstep heq])

/-- Settles O42: `step_busy_frame` for the two changes of BUSY; the acceptance, the completion and the reset each by the
operation it runs. -/
theorem busyIsSetByAcceptanceAndClearedByCompletion : Obligations.BusyIsSetByAcceptanceAndClearedByCompletion := by
  refine ⟨rfl, fun s t hstep => ⟨fun hb ht => ?_, fun hb ht => ?_, fun v rest hc hb hi hok => ?_, fun hc => ?_,
    fun rest hc hi => ?_⟩⟩
  · rcases step_busy_frame hstep with h | hc | ⟨-, -, h⟩ | ⟨-, h⟩
    · simp [h, hb] at ht
    · simp [busy_of_coreMoves hc] at hb
    · simp [h] at ht
    · exact h
  · rcases step_busy_frame hstep with h | hc | ⟨hc, hreset, -⟩ | ⟨h, -⟩
    · simp [h, hb] at ht
    · exact .inl hc
    · exact .inr ⟨hc, hreset⟩
    · simp [h] at hb
  · have hcheck : check (decode v) (s.pop rest) = .ok := (check_decode v (s.pop rest)).trans hok
    obtain ⟨op, hop, -⟩ := commandOp_of_check_ok hcheck
    have hwrite := cmdWrite_of_check_ok (s := s.pop rest) hb hop hcheck
    simp [next_state_unique hstep (step_cmdWrite hc hi), hwrite]
  · obtain ⟨op, -, rfl⟩ := step_of_coreMoves hc hstep
    exact complete_busy_or_stuck op s
  · simp [next_state_unique hstep (step_reset hc hi)]

/-- The schedule is kept but by KEYGEN's completion, which never clears SCHED_VALID, and a reset (R22, R30). -/
theorem step_schedule_frame {s t : State} (hstep : step s = .next t) :
    (t.rk = s.rk ∧ t.schedValid = s.schedValid) ∨
      (s.coreMoves = true ∧ s.pend = some .keygen ∧ (t.schedValid = s.schedValid ∨ t.schedValid = true)) ∨
      (s.coreMoves = false ∧ (∃ rest, s.inbox = .reset :: rest) ∧ t.schedValid = false) := by
  cases step_cases s with
  | completion op h heq =>
    obtain rfl := next_state_unique hstep heq
    by_cases hop : op = .keygen
    · subst hop
      exact .inr (.inl ⟨coreMoves_iff.mpr ⟨_, h⟩, (completing_iff.mp h).2.2.1, complete_keygen_schedValid s⟩)
    · exact .inl (complete_schedule_of_ne_keygen hop s)
  | reset rest hc hi heq => exact .inr (.inr ⟨hc, ⟨rest, hi⟩, by simp [next_state_unique hstep heq]⟩)
  | cmdWrite _ _ _ _ heq | idle _ _ heq | read _ _ _ _ _ heq | busError _ _ _ _ _ _ _ _ heq
  | storeKey _ _ _ _ _ _ _ _ heq | storeBuf _ _ _ _ _ _ _ _ heq =>
    exact .inl (by simp [next_state_unique hstep heq])

/-- Settles O43, by `step_schedule_frame`. -/
theorem schedValidIsSetByKeygenAndClearedByReset : Obligations.SchedValidIsSetByKeygenAndClearedByReset := by
  refine ⟨rfl, fun s t hstep => ⟨fun hs ht => ?_, fun hs ht => ?_⟩⟩
  · rcases step_schedule_frame hstep with ⟨-, h⟩ | ⟨hc, hp, -⟩ | ⟨-, -, h⟩
    · simp [h, hs] at ht
    · exact ⟨hc, hp⟩
    · simp [h] at ht
  · rcases step_schedule_frame hstep with ⟨-, h⟩ | ⟨-, -, h⟩ | ⟨hc, hreset, -⟩
    · simp [h, hs] at ht
    · simp [hs, ht] at h
    · exact ⟨hc, hreset⟩

/-- Settles O47, by `step_schedule_frame`. -/
theorem roundKeysAreWrittenOnlyByKeygen : Obligations.RoundKeysAreWrittenOnlyByKeygen := by
  intro s t hstep hne
  rcases step_schedule_frame hstep with ⟨h, -⟩ | ⟨hc, hp, -⟩ | ⟨hc, hreset, -⟩
  · exact absurd h hne
  · exact .inl ⟨hc, hp⟩
  · exact .inr ⟨hc, hreset⟩

/-- OVR is kept but by a CMD write and a reset (R23). -/
theorem step_ovr_frame {s t : State} (hstep : step s = .next t)
    (h : s.coreMoves = true ∨ (∀ v rest, s.inbox ≠ .access (.write 4 0x000#12 v) :: rest) ∧
      (∀ rest, s.inbox ≠ .reset :: rest)) : t.ovr = s.ovr := by
  cases step_cases s with
  | cmdWrite v rest hc hi => simp [hc, hi] at h
  | reset rest hc hi => simp [hc, hi] at h
  | completion _ _ heq | idle _ _ heq | read _ _ _ _ _ heq | busError _ _ _ _ _ _ _ _ heq
  | storeKey _ _ _ _ _ _ _ _ heq | storeBuf _ _ _ _ _ _ _ _ heq =>
    simp [next_state_unique hstep heq]

/-- Settles O44: the CMD write by `cmdWrite_frame`, the steps that leave OVR by `step_ovr_frame`. -/
theorem ovrRecordsADroppedCommand : Obligations.OvrRecordsADroppedCommand := by
  refine ⟨rfl, fun s t hstep => ⟨fun v rest hc hi => ?_, fun rest hc hi => ?_, step_ovr_frame hstep⟩⟩
  · simp [next_state_unique hstep (step_cmdWrite hc hi)]
  · simp [next_state_unique hstep (step_reset hc hi)]

/-- Settles O48: a completion by `complete_buf_getElem`, a host write by the word it names; every other step but a reset
leaves BUF. -/
theorem bufferWordsChangeOnlyByTheirWriters : Obligations.BufferWordsChangeOnlyByTheirWriters := by
  intro s t w hstep hne
  cases step_cases s with
  | completion op h heq =>
    obtain rfl := next_state_unique hstep heq
    obtain ⟨-, -, hp, -⟩ := completing_iff.mp h
    rcases complete_buf_getElem op s w with hkept | hop
    · exact absurd hkept hne
    · exact .inl ⟨coreMoves_iff.mpr ⟨op, h⟩, by simpa [hp] using hop⟩
  | reset rest hc hi => exact .inr (.inl ⟨hc, rest, hi⟩)
  | storeBuf w' off v rest hc hb hi hoff heq =>
    obtain rfl := next_state_unique hstep heq
    by_cases hw : w'.val = w.val
    · exact .inr (.inr ⟨hc, hb, off, v, rest, hw ▸ hoff, hi, by simp [hw]⟩)
    · exact absurd (by simp [Vector.getElem_set_ne _ _ hw]) hne
  | cmdWrite _ _ _ _ heq | idle _ _ heq | read _ _ _ _ _ heq | busError _ _ _ _ _ _ _ _ heq
  | storeKey _ _ _ _ _ _ _ _ heq =>
    exact absurd (by simp [next_state_unique hstep heq]) hne

/-! ### The record of faults -/

/-- A step only adds entries at the end of `FAULTS` (R39). -/
theorem step_faults_prefix {s t : State} (hstep : step s = .next t) : s.faults <+: t.faults := by
  cases step_cases s with
  | completion op _ heq => exact next_state_unique hstep heq ▸ complete_faults_prefix op s
  | read size off rest _ _ heq => exact next_state_unique hstep heq ▸ hostRead_faults_prefix size off (s.pop rest)
  | reset _ _ _ heq | cmdWrite _ _ _ _ heq | idle _ _ heq | busError _ _ _ _ _ _ _ _ heq
  | storeKey _ _ _ _ _ _ _ _ heq | storeBuf _ _ _ _ _ _ _ _ heq =>
    simp [next_state_unique hstep heq]

theorem exists_step (s : State) : ∃ t, step s = .next t := by
  cases step_cases s with
  | completion _ _ heq | reset _ _ _ heq | cmdWrite _ _ _ _ heq | idle _ _ heq | read _ _ _ _ _ heq
  | busError _ _ _ _ _ _ _ _ heq | storeKey _ _ _ _ _ _ _ _ heq | storeBuf _ _ _ _ _ _ _ _ heq =>
    exact ⟨_, heq⟩

/-- Settles O19: every case of a step has its next state, and `exec` is a CMD write or a completion. -/
theorem everyStateHasANextState : Obligations.EveryStateHasANextState := by
  refine ⟨exists_step, fun i s => ?_⟩
  cases i <;> exact ⟨_, rfl⟩

/-- A run begins with a step. -/
theorem run_succ {s t : State} (h : step s = .next t) (n : Nat) :
    Host.Core.run Sys2Proof.core (n + 1) s = Host.Core.run Sys2Proof.core n t := by
  have hcore : Sys2Proof.core.step s = .next t := h
  simp only [Host.Core.run, hcore]

/-- A run of any length only adds entries at the end of `FAULTS` (R39). -/
theorem run_faults_prefix (n : Nat) {s t : State} (h : Host.Core.run Sys2Proof.core n s = .next t) :
    s.faults <+: t.faults := by
  induction n generalizing s with
  | zero =>
    obtain rfl : s = t := Host.Outcome.next.inj h
    exact List.prefix_rfl
  | succ n ih =>
    obtain ⟨u, hu⟩ := exists_step s
    rw [run_succ hu] at h
    exact (step_faults_prefix hu).trans (ih h)

/-- Settles O51: the new list begins with the old one after a step, and after a run. -/
theorem faultsAreNeverRemoved : Obligations.FaultsAreNeverRemoved := by
  refine ⟨fun s t hstep => ?_, fun n s t hrun hs hgood => ?_⟩
  · obtain ⟨l, hl⟩ := step_faults_prefix hstep
    exact ⟨l, hl.symm⟩
  · obtain ⟨-, -, hnil⟩ := hgood
    exact hs (List.prefix_nil.mp (hnil ▸ run_faults_prefix n hrun))

end Sys2Proof.Machine
end

section
/-! PROOFS. A pending command and the host (44_host_commands.md R98, 20_memory.md R47, R51, 93_implementation_defined.md
I13): what the window still admits, what every host step but a reset leaves as it was, and the steps of reset and rest. -/

namespace Sys2Proof.Machine

/-! ### The placement of the window -/

/-- Settles O41: CORE_BASE is a multiple of the window's size, and an offset is the address minus it. -/
theorem windowIsPlacedAtCoreBase : Obligations.WindowIsPlacedAtCoreBase := by
  refine ⟨Nat.dvd_mul_right 4096 _, fun off => ⟨rfl, ?_⟩, fun addr haddr => ?_⟩
  · have hlt : off.toNat < 4096 := off.isLt
    simp [windowOffset, platformAddr, hlt]
  · exact if_neg (by omega)

/-! ### Accesses while BUSY -/

theorem writeReg_of_busy {r : WindowReg} {s : State} (hcmd : r ≠ .cmd) (hb : s.busy = true) (v : Word) (a : HostAccess) :
    ∃ b, writeReg r v a s = .settled (s.raiseBus b a) := by
  cases r with
  | cmd => contradiction
  | status => exact ⟨.ro, rfl⟩
  | rk i => exact ⟨.ro, rfl⟩
  | key j => exact ⟨.busy, writeReg_key_of_busy hb j v a⟩
  | buf w => exact ⟨.busy, writeReg_buf_of_busy hb w v a⟩

/-- While BUSY, a read of any offset but those of CMD and STATUS is a bus error (R96, R98). -/
theorem hostRead_of_busy {off : Offset} {s : State} (hb : s.busy = true) (hcmd : off.toNat ≠ 0x000)
    (hstatus : off.toNat ≠ 0x004) : ∃ b, hostRead 4 off s = s.raiseBus b (.read 4 off) := by
  cases hl : locate 4 off with
  | error b => exact ⟨b, hostRead_of_locate_error hl s⟩
  | ok r =>
    have hoff := (locate_eq_ok_iff.mp hl).2
    have hr : r ≠ .cmd ∧ r ≠ .status := ⟨by rintro rfl; exact hcmd hoff, by rintro rfl; exact hstatus hoff⟩
    exact ⟨.busy, (hostRead_of_offsetOf hoff s).trans (readReg_of_busy hr.1 hr.2 hb _)⟩

/-- While BUSY, a write of any offset but that of CMD is a bus error (R97, R98). -/
theorem hostWrite_of_busy {off : Offset} {s : State} (hb : s.busy = true) (hcmd : off.toNat ≠ 0x000) (v : Word) :
    ∃ b, hostWrite 4 off v s = .settled (s.raiseBus b (.write 4 off v)) := by
  cases hl : locate 4 off with
  | error b => exact ⟨b, hostWrite_of_locate_error hl v s⟩
  | ok r =>
    have hoff := (locate_eq_ok_iff.mp hl).2
    have hr : r ≠ .cmd := by rintro rfl; exact hcmd hoff
    obtain ⟨b, hw⟩ := writeReg_of_busy hr hb v (.write 4 off v)
    exact ⟨b, (hostWrite_of_offsetOf hoff v s).trans hw⟩

/-- Settles O39: the reads of CMD and STATUS and the CMD write by their own rules, every other access by
`hostRead_of_busy` and `hostWrite_of_busy`. -/
theorem pendingWindowAdmitsOnlyStatusAndCmd : Obligations.PendingWindowAdmitsOnlyStatusAndCmd := by
  intro s t off rest hb _ hstep
  refine ⟨fun hp => ⟨?_, fun hcmd hstatus => ?_⟩, fun v hp => ⟨fun hoff => ?_, fun hcmd => ?_⟩⟩
  · rintro (hoff | hoff)
    · simp [next_state_unique hstep (step_readReg (r := .cmd) hp hoff), readReg]
    · simp [next_state_unique hstep (step_readReg (r := .status) hp hoff), readReg]
  · obtain ⟨b, hread⟩ := hostRead_of_busy (s := s.pop rest) hb hcmd hstatus
    rw [next_state_unique hstep (step_read (coreMoves_of_host hp.1) hp.2), hread]
    exact ⟨rfl, rfl, b, rfl⟩
  · obtain rfl : off = 0x000#12 := BitVec.eq_of_toNat_eq hoff
    simp [next_state_unique hstep (step_cmdWrite (coreMoves_of_host hp.1) hp.2)]
  · obtain ⟨b, hw⟩ := hostWrite_of_busy (s := s.pop rest) hb hcmd v
    rw [next_state_unique hstep (step_write (coreMoves_of_host hp.1) hp.2 hw)]
    exact ⟨rfl, rfl, b, rfl⟩

/-! ### What a host step leaves of a pending command -/

/-- The command that is pending in `s` is still pending in `t`, with all that its completion reads. -/
structure KeepsPending (s t : State) : Prop where
  busy : t.busy = s.busy
  pend : t.pend = s.pend
  stuck : t.stuck = s.stuck
  accepted : t.accepted = s.accepted
  key : t.key = s.key
  keyw : t.keyw = s.keyw
  rk : t.rk = s.rk
  schedValid : t.schedValid = s.schedValid
  buf : t.buf = s.buf
  err : t.err = s.err

/-- A host step other than a reset leaves a pending command (R47, R51): a write of CMD is an overrun, and a store is not
made while BUSY. -/
theorem step_keepsPending {s t : State} (hb : s.busy = true) (hc : s.coreMoves = false)
    (hreset : ∀ rest, s.inbox ≠ .reset :: rest) (hstep : step s = .next t) : KeepsPending s t := by
  cases step_cases s with
  | completion op h => simp [coreMoves_iff.mpr ⟨op, h⟩] at hc
  | reset rest _ hi => exact absurd hi (hreset rest)
  | storeKey _ _ _ _ _ hidle => simp [hb] at hidle
  | storeBuf _ _ _ _ _ hidle => simp [hb] at hidle
  | cmdWrite v rest _ _ heq =>
    obtain rfl := next_state_unique hstep heq
    rw [cmdWrite_of_busy (s := s.pop rest) hb]
    constructor <;> rfl
  | idle _ _ heq | read _ _ _ _ _ heq | busError _ _ _ _ _ _ _ _ heq =>
    obtain rfl := next_state_unique hstep heq
    constructor <;> simp

/-- Settles O49, by `step_keepsPending`. -/
theorem pendingCommandIsSealed : Obligations.PendingCommandIsSealed := by
  intro s t hb hc hreset hstep
  have h := step_keepsPending hb hc hreset hstep
  exact ⟨h.busy.trans hb, h.pend, h.key, h.keyw, h.rk, h.schedValid, h.buf, h.err⟩

/-! ### Reset and rest -/

/-- The state that a reset event leaves, in full: the host moves next, since nothing is pending (R119). -/
theorem step_of_reset {s : State} {rest : List Event} (hc : s.coreMoves = false) (hi : s.inbox = .reset :: rest) :
    step s = .next { State.reset with faults := s.faults, inbox := rest, accepted := s.accepted } :=
  step_reset hc hi

theorem statusWord_reset : State.reset.statusWord = 0x00040000#32 := by
  decide

/-- Settles O52: `step_of_reset`, and the fields of `State.reset` as they are written. -/
theorem resetEventGivesTheResetState : Obligations.ResetEventGivesTheResetState := by
  intro s rest hc hi
  refine ⟨step_of_reset hc hi, rfl, rfl, rfl, rfl, rfl, rfl, statusWord_reset, fun j => ?_, fun i => ?_, fun w => ?_⟩
  all_goals simp [State.reset]

/-- Settles O53: with nothing pending the host is chosen again. -/
theorem idleKeepsAllState : Obligations.IdleKeepsAllState := by
  rintro s ⟨hturn, hb⟩ hi
  rw [step_idle (coreMoves_of_host hturn) hi, State.arbitrate, nextTurn_of_not_busy hb, ← hturn]

/-! ### A stuck command -/

theorem coreMoves_of_stuck {s : State} (h : s.stuck = true) : s.coreMoves = false := by
  simp [State.coreMoves, h]

/-- Settles O58: the CORE does not move, so a step is the host's: `step_keepsPending` without a reset, `step_of_reset`
with one, and with an empty inbox only the next agent is chosen, the host. -/
theorem stuckCommandNeverCompletes : Obligations.StuckCommandNeverCompletes := by
  intro s t hb hs hstep
  have hc := coreMoves_of_stuck hs
  refine ⟨fun hreset => ?_, fun hi => ?_, fun rest hi => ?_⟩
  · have h := step_keepsPending hb hc hreset hstep
    exact ⟨h.busy.trans hb, h.stuck.trans hs, h.pend, h.key, h.keyw, h.rk, h.buf, h.schedValid, h.err⟩
  · rw [next_state_unique hstep (step_idle hc hi), State.arbitrate, nextTurn_of_stuck hs]
  · rw [next_state_unique hstep (step_of_reset hc hi)]
    exact ⟨rfl, rfl, rfl, statusWord_reset⟩

end Sys2Proof.Machine
end

section
/-! PROOFS. The key is never readable (10_state.md R29): a step commutes with replacing the key words, but for KEYGEN's
completion, which reads them. -/

namespace Sys2Proof.Machine

/-- The state with other key words. -/
def State.withKey (s : State) (k : Vector (Option Word) 4) : State := { s with key := k }

variable (s : State) (k : Vector (Option Word) 4)

@[simp] theorem withKey_busy : (s.withKey k).busy = s.busy := rfl
@[simp] theorem withKey_rk : (s.withKey k).rk = s.rk := rfl
@[simp] theorem withKey_buf : (s.withKey k).buf = s.buf := rfl
@[simp] theorem answer_withKey (r : Reply) : (s.withKey k).answer r = (s.answer r).withKey k := rfl
@[simp] theorem raiseBus_withKey (b : BusReason) (a : HostAccess) :
    (s.withKey k).raiseBus b a = (s.raiseBus b a).withKey k := rfl
@[simp] theorem raiseNoValueRead_withKey (a : HostAccess) :
    (s.withKey k).raiseNoValueRead a = (s.raiseNoValueRead a).withKey k := rfl
@[simp] theorem storeKey_withKey (j : Fin 4) (v : Word) :
    (s.withKey k).storeKey j v = (s.storeKey j v).withKey (k.set j (some v)) := rfl
@[simp] theorem storeBuf_withKey (w : Fin (4 * Config.nb)) (v : Word) :
    (s.withKey k).storeBuf w v = (s.storeBuf w v).withKey k := rfl

/-- No register but KEY answers from the key words, and KEY answers 0 (R29, R96). -/
theorem readReg_withKey (r : WindowReg) (a : HostAccess) : readReg r a (s.withKey k) = (readReg r a s).withKey k := by
  cases r with
  | cmd => rfl
  | status => rfl
  | key j => cases hb : s.busy <;> simp [readReg, hb]
  | rk i =>
    cases hb : s.busy with
    | true => simp [readReg, hb]
    | false => cases h : s.rk[i] <;> simp [readReg, hb, h]
  | buf w =>
    cases hb : s.busy with
    | true => simp [readReg, hb]
    | false => cases h : s.buf[w] <;> simp [readReg, hb, h]

theorem hostRead_withKey (size : Nat) (off : Offset) :
    hostRead size off (s.withKey k) = (hostRead size off s).withKey k := by
  unfold hostRead
  split
  · exact readReg_withKey s k _ _
  · rfl

/-- A write that is settled at the port is settled whatever the key words are; a key store has made its own. -/
theorem hostWrite_withKey {s t : State} {size : Nat} {off : Offset} {v : Word}
    (h : hostWrite size off v s = .settled t) :
    ∃ k', hostWrite size off v (s.withKey k) = .settled (t.withKey k') := by
  unfold hostWrite at h ⊢
  split at h
  · rename_i r _
    cases r with
    | cmd => cases h
    | status => cases h; exact ⟨k, rfl⟩
    | rk i => cases h; exact ⟨k, rfl⟩
    | key j =>
      cases h
      cases hb : s.busy with
      | true => exact ⟨k, by simp [writeReg, hb]⟩
      | false => exact ⟨k.set j (some v), by simp [writeReg, hb]⟩
    | buf w =>
      cases h
      exact ⟨k, by cases hb : s.busy <;> simp [writeReg, hb]⟩
  · cases h
    exact ⟨k, rfl⟩

/-- A write that is not CMD's is settled at the port (R97). -/
theorem hostWrite_settled {size : Nat} {off : Offset} (hne : ¬(size = 4 ∧ off = 0x000#12)) (v : Word) (s : State) :
    ∃ t, hostWrite size off v s = .settled t := by
  rcases hostWrite_cases size off v s with ⟨hs, hoff, -⟩ | ⟨b, h⟩ | ⟨-, -, j, -, h⟩ | ⟨-, -, w, -, h⟩
  · exact absurd ⟨hs, hoff⟩ hne
  · exact ⟨_, h⟩
  · exact ⟨_, h⟩
  · exact ⟨_, h⟩

/-- CHECK looks at KEYW, not at the key words (R100). -/
theorem check_withKey (i : Instr) : check i (s.withKey k) = check i s := by
  cases i <;> rfl

theorem cmdWrite_withKey (i : Instr) : cmdWrite i (s.withKey k) = (cmdWrite i s).withKey k := by
  simp only [cmdWrite, withKey_busy, check_withKey]
  split
  · rfl
  · split <;> rfl

/-- Every effect but KEYGEN's is computed without the key words (R83, R90, R102). -/
theorem effectOf_withKey {op : Op} (hop : op ≠ .keygen) :
    effectOf op (s.withKey k) = (effectOf op s).map (·.withKey k) := by
  have hcrypt (dir : Dir) : cryptEffect dir (s.withKey k) = (cryptEffect dir s).map (·.withKey k) := by
    simp only [cryptEffect, State.batchOperand, State.scheduleOperand, withKey_buf, withKey_rk]
    split <;> rfl
  cases op with
  | nop => rfl
  | keygen => contradiction
  | encb => exact hcrypt .enc
  | decb => exact hcrypt .dec
  | sbox16 =>
    simp only [effectOf, sboxEffect, State.sboxOperand, withKey_buf, Option.map_map]
    rfl

theorem complete_withKey {op : Op} (hop : op ≠ .keygen) :
    complete op (effectOf op) (s.withKey k) = (complete op (effectOf op) s).withKey k := by
  simp only [complete, effectOf_withKey s k hop]
  cases effectOf op s <;> rfl

theorem step_write_withKey {s t : State} {size : Nat} {off : Offset} {v : Word} {rest : List Event}
    (hc : s.coreMoves = false) (hi : s.inbox = .access (.write size off v) :: rest)
    (hne : ¬(size = 4 ∧ off = 0x000#12)) (hstep : step s = .next t) :
    ∃ k', step (s.withKey k) = .next (t.withKey k') := by
  obtain ⟨u, hu⟩ := hostWrite_settled hne v (s.pop rest)
  obtain rfl := next_state_unique hstep (step_write hc hi hu)
  obtain ⟨k', hk'⟩ := hostWrite_withKey k hu
  exact ⟨k', step_write (s := s.withKey k) hc hi hk'⟩

/-- Replacing the key words replaces them in the next state, and changes nothing else there. -/
theorem step_withKey {s t : State} (hkeygen : s.coreMoves = true → s.pend ≠ some .keygen) (hstep : step s = .next t) :
    ∃ k', step (s.withKey k) = .next (t.withKey k') := by
  cases step_cases s with
  | completion op h heq =>
    obtain rfl := next_state_unique hstep heq
    have hop : op ≠ .keygen := by
      rintro rfl
      exact hkeygen (coreMoves_iff.mpr ⟨_, h⟩) (completing_iff.mp h).2.2.1
    refine ⟨k, (step_completing (s := s.withKey k) h).trans ?_⟩
    rw [complete_withKey s k hop]
    rfl
  | idle hc hi heq =>
    obtain rfl := next_state_unique hstep heq
    exact ⟨k, step_idle (s := s.withKey k) hc hi⟩
  | reset rest hc hi heq =>
    obtain rfl := next_state_unique hstep heq
    exact ⟨State.reset.key, step_reset (s := s.withKey k) hc hi⟩
  | read size off rest hc hi heq =>
    obtain rfl := next_state_unique hstep heq
    refine ⟨k, (step_read (s := s.withKey k) hc hi).trans ?_⟩
    exact congrArg _ (congrArg State.arbitrate (hostRead_withKey (s.pop rest) k size off))
  | cmdWrite v rest hc hi heq =>
    obtain rfl := next_state_unique hstep heq
    refine ⟨k, (step_cmdWrite (s := s.withKey k) hc hi).trans ?_⟩
    exact congrArg _ (congrArg State.arbitrate (cmdWrite_withKey (s.pop rest) k (decode v)))
  | busError size off v b rest hc hi hne => exact step_write_withKey k hc hi hne hstep
  | storeKey j off v rest hc hb hi hoff =>
    have hne : off ≠ 0x000#12 := by
      rintro rfl
      exact absurd hoff (by simp; omega)
    exact step_write_withKey k hc hi (fun h => hne h.2) hstep
  | storeBuf w off v rest hc hb hi hoff =>
    have hne : off ≠ 0x000#12 := by
      rintro rfl
      exact absurd hoff (by simp; omega)
    exact step_write_withKey k hc hi (fun h => hne h.2) hstep

/-- Settles O50: the two next states differ in the key words only, and STATUS does not read them. -/
theorem keyIsNeverReadable : Obligations.KeyIsNeverReadable := by
  intro s t k hkeygen hstep
  obtain ⟨k', hk'⟩ := step_withKey k hkeygen hstep
  exact ⟨t.withKey k', hk', rfl, rfl, rfl, rfl, rfl, rfl, rfl⟩

end Sys2Proof.Machine
end

section
/-! PROOFS. The invariant (10_state.md sections 2 to 4): the agreement of KEYW with KEY and of SCHED_VALID with RK, and a
pending command with what its acceptance checked, hold at reset and are kept by every step. -/

namespace Sys2Proof.Machine

/-! ### The data registers and their flags -/

/-- The clauses of the invariant about the data registers and their flags (R22, R25, R29, R30). -/
structure State.DataAgree (s : State) : Prop where
  keyw_iff_key : ∀ j : Fin 4, s.keyw.getLsbD j.val = s.key[j].isSome
  valid_schedule : s.schedValid = true → ∃ mk : Vector Word 4, s.rk = (schedule mk).map some
  no_schedule : s.schedValid = false → s.rk = Vector.replicate 32 none

theorem State.Inv.dataAgree {s : State} (h : s.Inv) : s.DataAgree :=
  ⟨h.keyw_iff_key, h.valid_schedule, h.no_schedule⟩

theorem State.DataAgree.congr {s t : State} (h : s.DataAgree) (hkey : t.key = s.key) (hkeyw : t.keyw = s.keyw)
    (hrk : t.rk = s.rk) (hsched : t.schedValid = s.schedValid) : t.DataAgree := by
  obtain ⟨hagree, hvalid, hnone⟩ := h
  refine ⟨fun j => ?_, ?_, ?_⟩
  · rw [hkeyw, hkey]
    exact hagree j
  · rwa [hsched, hrk]
  · rwa [hsched, hrk]

theorem dataAgree_reset : State.reset.DataAgree :=
  ⟨by decide +kernel, nofun, fun _ => rfl⟩

/-- A key store writes the word and its bit of KEYW together (R97). -/
theorem State.DataAgree.storeKey {s : State} (h : s.DataAgree) (j : Fin 4) (v : Word) : (s.storeKey j v).DataAgree := by
  refine ⟨fun k => ?_, h.valid_schedule, h.no_schedule⟩
  rw [storeKey_keyw, keywWith_getLsbD, h.keyw_iff_key k]
  by_cases hk : k = j
  · simp [hk]
  · have hne : j.val ≠ k.val := fun heq => hk (Fin.ext heq.symm)
    simp [hk, Vector.getElem_set_ne _ _ hne]

/-- KEYGEN installs a schedule with its flag and consumes the key with KEYW (R84). -/
theorem dataAgree_installSchedule (s : State) (mk : Vector Word 4) : (s.installSchedule (schedule mk)).DataAgree :=
  ⟨fun j => by simp, fun _ => ⟨mk, rfl⟩, nofun⟩

/-! ### The invariant after a step -/

/-- With no command pending the invariant is the agreement of the data registers. -/
theorem inv_of_not_busy {t : State} (hd : t.DataAgree) (hb : t.busy = false) (hp : t.pend = none)
    (hs : t.stuck = false) (hturn : t.turn = t.nextTurn) : t.Inv where
  busy_iff_pend := by simp [hb, hp]
  keyw_iff_key := hd.keyw_iff_key
  valid_schedule := hd.valid_schedule
  no_schedule := hd.no_schedule
  keygen_has_key := by simp [hp]
  batch_has_schedule := by simp [hp]
  stuck_recorded := by simp [hs]
  stuck_turn := by simp [hs]
  turn_chosen := hturn

/-- Without a pending command there is no opcode in PEND and no stuck completion. -/
theorem State.Inv.pend_and_stuck {s : State} (h : s.Inv) (hb : s.busy = false) : s.pend = none ∧ s.stuck = false := by
  have hp : s.pend = none := by simpa [hb] using h.busy_iff_pend
  refine ⟨hp, Bool.eq_false_iff.mpr fun hs => ?_⟩
  obtain ⟨op, hop, -⟩ := h.stuck_recorded hs
  simp [hp] at hop

/-- Updates of ERR, OVR, BUF and the model's own fields keep the invariant, and so does an entry added to `FAULTS`. -/
theorem State.Inv.of_frame {s t : State} (h : s.Inv) (hb : t.busy = s.busy) (hp : t.pend = s.pend)
    (hs : t.stuck = s.stuck) (hkey : t.key = s.key) (hkeyw : t.keyw = s.keyw) (hrk : t.rk = s.rk)
    (hsched : t.schedValid = s.schedValid) (hf : s.faults <+: t.faults) (hturn : t.turn = t.nextTurn) : t.Inv := by
  obtain ⟨hagree, hvalid, hnone⟩ := h.dataAgree.congr hkey hkeyw hrk hsched
  refine ⟨?_, hagree, hvalid, hnone, ?_, ?_, fun hstuck => ?_, fun hstuck => ?_, hturn⟩
  · simpa [hb, hp] using h.busy_iff_pend
  · simpa [hp, hkeyw] using h.keygen_has_key
  · simpa [hp, hsched] using h.batch_has_schedule
  · obtain ⟨op, hop, hmem⟩ := h.stuck_recorded (hs ▸ hstuck)
    exact ⟨op, hp.trans hop, hf.subset hmem⟩
  · exact hturn.trans (nextTurn_of_stuck hstuck)

/-- The state in which `op` has just become pending has what the check of `op` asked for (R99, R100). -/
theorem inv_accept {s : State} {op : Op} (hd : s.DataAgree) (hs : s.stuck = false) (hc : stateCheck op s = .ok) :
    (s.accept op).arbitrate.Inv where
  busy_iff_pend := rfl
  keyw_iff_key := hd.keyw_iff_key
  valid_schedule := hd.valid_schedule
  no_schedule := hd.no_schedule
  keygen_has_key hp := by
    obtain rfl : op = .keygen := Option.some.inj hp
    simpa [stateCheck] using hc
  batch_has_schedule hp := by
    rcases hp with hp | hp
    · obtain rfl : op = .encb := Option.some.inj hp
      simpa [stateCheck] using hc
    · obtain rfl : op = .decb := Option.some.inj hp
      simpa [stateCheck] using hc
  stuck_recorded := by simp [hs]
  stuck_turn := nextTurn_of_stuck
  turn_chosen := rfl

/-- A CMD write leaves what a pending command reads, or makes pending a command that passed its check (R99). -/
theorem State.Inv.after_cmdWrite {s : State} (h : s.Inv) (i : Instr) (rest : List Event) :
    (cmdWrite i (s.pop rest)).arbitrate.Inv := by
  rcases cmdWrite_cases i (s.pop rest) with ⟨-, hw⟩ | ⟨-, -, hw⟩ | ⟨hb, hc, op, hop, hw⟩
  · rw [hw]
    exact h.of_frame rfl rfl rfl rfl rfl rfl rfl (by simp) rfl
  · rw [hw]
    exact h.of_frame rfl rfl rfl rfl rfl rfl rfl (by simp) rfl
  · obtain ⟨op', hop', -, hstate⟩ := commandOp_of_check_ok hc
    obtain rfl : op' = op := Option.some.inj (hop'.symm.trans hop)
    have hd : (s.pop rest).DataAgree := h.dataAgree.congr rfl rfl rfl rfl
    rw [hw]
    exact (inv_accept hd (h.pend_and_stuck hb).2 hstate).of_frame rfl rfl rfl rfl rfl rfl rfl (by simp) rfl

/-- The end of a completion leaves the agreement of the data registers that its effect has made (R101). -/
theorem inv_retire {u : State} (hd : u.DataAgree) (hs : u.stuck = false) : u.retire.arbitrate.Inv :=
  inv_of_not_busy (hd.congr rfl rfl rfl rfl) rfl rfl hs rfl

/-- A completion ends the command, with the schedule and the key changed together if it is KEYGEN, or leaves it stuck with
its fault recorded (R84, R101, R107). -/
theorem State.Inv.after_complete {s : State} (h : s.Inv) {op : Op} (hop : s.completing op = true) :
    (complete op (effectOf op) s).arbitrate.Inv := by
  obtain ⟨-, -, hp, hs⟩ := completing_iff.mp hop
  have hd := h.dataAgree
  rcases complete_effectOf_cases op s with ⟨-, hw⟩ | ⟨-, mk, -, hw⟩ | ⟨-, b, hw⟩ | ⟨-, w, hw⟩ | ⟨-, hw⟩
  all_goals rw [hw]
  · exact inv_retire hd hs
  · exact inv_retire (dataAgree_installSchedule s mk) hs
  · exact inv_retire (hd.congr (by simp) (by simp) (by simp) (by simp)) (by simpa using hs)
  · exact inv_retire (hd.congr (by simp) (by simp) (by simp) (by simp)) (by simpa using hs)
  · exact ⟨h.busy_iff_pend, hd.keyw_iff_key, hd.valid_schedule, hd.no_schedule, h.keygen_has_key, h.batch_has_schedule,
      fun _ => ⟨op, hp, by simp⟩, nextTurn_of_stuck, rfl⟩

/-- Settles O55: nothing is pending at reset. -/
theorem invariantHoldsAtReset : Obligations.InvariantHoldsAtReset :=
  inv_of_not_busy dataAgree_reset rfl rfl rfl rfl

/-- Settles O56: in each case of a step the invariant is kept by the operation that the case runs. -/
theorem everyStepKeepsTheInvariant : Obligations.EveryStepKeepsTheInvariant := by
  intro s t h hstep
  have hf := step_faults_prefix hstep
  cases step_cases s with
  | completion op hop heq =>
    obtain rfl := next_state_unique hstep heq
    exact h.after_complete hop
  | reset rest _ _ heq =>
    obtain rfl := next_state_unique hstep heq
    exact inv_of_not_busy (dataAgree_reset.congr rfl rfl rfl rfl) rfl rfl rfl rfl
  | cmdWrite v rest _ _ heq =>
    obtain rfl := next_state_unique hstep heq
    exact h.after_cmdWrite _ rest
  | storeKey j off v rest _ hb _ _ heq =>
    obtain rfl := next_state_unique hstep heq
    obtain ⟨hp, hs⟩ := h.pend_and_stuck hb
    exact inv_of_not_busy ((h.dataAgree.storeKey j v).congr rfl rfl rfl rfl) hb hp hs rfl
  | idle _ _ heq | read _ _ _ _ _ heq | busError _ _ _ _ _ _ _ _ heq | storeBuf _ _ _ _ _ _ _ _ heq =>
    obtain rfl := next_state_unique hstep heq
    refine h.of_frame ?_ ?_ ?_ ?_ ?_ ?_ ?_ hf rfl <;> simp

end Sys2Proof.Machine
end

section
/-! PROOFS. From acceptance to completion (00_scope.md R10, 42_key_schedule.md R84, 43_round_engine.md R90,
44_host_commands.md R101): an accepted command has its key or its schedule, and it comes to its completion. -/

namespace Sys2Proof.Machine

/-! ### What a completion can miss -/

/-- An accepted KEYGEN has a number in every key word (R84). -/
theorem State.Inv.key_isSome {s : State} (h : s.Inv) (hp : s.pend = some .keygen) (j : Fin 4) :
    s.key[j].isSome = true := by
  have hbit : ∀ k : Fin 4, (0b1111#4).getLsbD k.val = true := by decide
  rw [← h.keyw_iff_key j, h.keygen_has_key hp, hbit]

/-- A command becomes stuck only by its own completion, which misses an operand (R107). -/
theorem effectOf_eq_none_of_stuck {s t : State} (hstep : step s = .next t) (hs : s.stuck = false)
    (ht : t.stuck = true) : ∃ op, s.pend = some op ∧ effectOf op s = none := by
  cases step_cases s with
  | completion op h heq =>
    obtain rfl := next_state_unique hstep heq
    refine ⟨op, (completing_iff.mp h).2.2.1, ?_⟩
    rcases complete_effectOf_cases op s with ⟨-, hw⟩ | ⟨-, mk, -, hw⟩ | ⟨-, b, hw⟩ | ⟨-, w, hw⟩ | ⟨hnone, -⟩
    · simp [hw, hs] at ht
    · simp [hw, hs] at ht
    · simp [hw, hs] at ht
    · simp [hw, hs] at ht
    · exact hnone
  | idle _ _ heq | reset _ _ _ heq | read _ _ _ _ _ heq | cmdWrite _ _ _ _ heq | busError _ _ _ _ _ _ _ _ heq
  | storeKey _ _ _ _ _ _ _ _ heq | storeBuf _ _ _ _ _ _ _ _ heq =>
    simp [next_state_unique hstep heq, hs] at ht

/-- Settles O57: the invariant's clauses on a pending command, by which NOP and KEYGEN have all that their completion
needs. -/
theorem acceptedCommandsHaveTheirKeyAndSchedule : Obligations.AcceptedCommandsHaveTheirKeyAndSchedule := by
  intro s h
  refine ⟨h.key_isSome, fun hp => h.valid_schedule (h.batch_has_schedule hp), fun t hstep hs ht => ?_⟩
  obtain ⟨op, hp, hnone⟩ := effectOf_eq_none_of_stuck hstep hs ht
  cases op with
  | nop => cases hnone
  | keygen =>
    obtain ⟨j, hj⟩ := keygenEffect_eq_none_iff.mp hnone
    have hsome := h.key_isSome hp j
    simp [hj] at hsome
  | encb => exact .inl hp
  | decb => exact .inr (.inl hp)
  | sbox16 => exact .inr (.inr hp)

/-! ### The way to the completion -/

theorem KeepsPending.refl (s : State) : KeepsPending s s := by
  constructor <;> rfl

theorem KeepsPending.trans {s t u : State} (hst : KeepsPending s t) (htu : KeepsPending t u) : KeepsPending s u := by
  constructor
  · exact htu.busy.trans hst.busy
  · exact htu.pend.trans hst.pend
  · exact htu.stuck.trans hst.stuck
  · exact htu.accepted.trans hst.accepted
  · exact htu.key.trans hst.key
  · exact htu.keyw.trans hst.keyw
  · exact htu.rk.trans hst.rk
  · exact htu.schedValid.trans hst.schedValid
  · exact htu.buf.trans hst.buf
  · exact htu.err.trans hst.err

/-- At the CORE's turn the CORE moves, unless the command is stuck (R101). -/
theorem State.Inv.coreMoves_of_turn {s : State} (h : s.Inv) (hb : s.busy = true) (hs : s.stuck = false)
    (hturn : s.turn = .core) : s.coreMoves = true := by
  have hp : s.pend.isSome = true := h.busy_iff_pend.symm.trans hb
  simp [State.coreMoves, hturn, hb, hp, hs]

/-- While a command is pending the host is chosen only if it has an event left and the latency is not over (R10). -/
theorem nextTurn_eq_host {s : State} (hb : s.busy = true) (hs : s.stuck = false) (h : s.nextTurn = .host) :
    s.inbox ≠ [] ∧ s.waited < Config.latency s.accepted := by
  simpa [State.nextTurn, hb, hs] using h

/-- A host access while a command is pending takes one event and counts one host step (R10). -/
theorem step_waited {s t : State} {a : HostAccess} {rest : List Event} (hb : s.busy = true) (hc : s.coreMoves = false)
    (hi : s.inbox = .access a :: rest) (hstep : step s = .next t) : t.inbox = rest ∧ t.waited = s.waited + 1 := by
  cases step_cases s with
  | completion op h => simp [coreMoves_iff.mpr ⟨op, h⟩] at hc
  | idle _ hi' => simp [hi] at hi'
  | reset _ _ hi' => simp [hi] at hi'
  | storeKey _ _ _ _ _ hidle => simp [hb] at hidle
  | storeBuf _ _ _ _ _ hidle => simp [hb] at hidle
  | cmdWrite v rest' _ hi' heq =>
    obtain ⟨-, rfl⟩ := List.cons.inj (hi.symm.trans hi')
    simp [next_state_unique hstep heq, cmdWrite_of_busy (s := s.pop rest) hb]
  | read _ _ rest' _ hi' heq | busError _ _ _ _ rest' _ hi' _ heq =>
    obtain ⟨-, rfl⟩ := List.cons.inj (hi.symm.trans hi')
    simp [next_state_unique hstep heq]

/-- A pending command comes to the CORE's turn within the host's remaining accesses and the latency that is left: each
host step uses one of both up (R10, R101). -/
theorem run_to_completion (events : List Event) {s : State} (hi : s.inbox = events) (h : s.Inv) (hb : s.busy = true)
    (hs : s.stuck = false) (hreset : Event.reset ∉ events) :
    ∃ (n : Nat) (t : State), n ≤ events.length ∧ n ≤ Config.latency s.accepted - s.waited ∧
      Host.Core.run Sys2Proof.core n s = .next t ∧ t.coreMoves = true ∧ KeepsPending s t := by
  induction events generalizing s with
  | nil =>
    have hturn : s.turn = .core := by simp [h.turn_chosen, State.nextTurn, hb, hs, hi]
    exact ⟨0, s, le_rfl, Nat.zero_le _, rfl, h.coreMoves_of_turn hb hs hturn, .refl s⟩
  | cons e rest ih =>
    cases hturn : s.turn with
    | core => exact ⟨0, s, Nat.zero_le _, Nat.zero_le _, rfl, h.coreMoves_of_turn hb hs hturn, .refl s⟩
    | host =>
      have hc := coreMoves_of_host hturn
      obtain ⟨u, hu⟩ := exists_step s
      obtain ⟨hne, hrest⟩ := not_or.mp (mt List.mem_cons.mpr hreset)
      have hkeep : KeepsPending s u := by
        refine step_keepsPending hb hc (fun rest' hi' => hne ?_) hu
        exact (List.cons.inj (hi'.symm.trans hi)).1
      have hevent : u.inbox = rest ∧ u.waited = s.waited + 1 := by
        cases e with
        | reset => contradiction
        | access a => exact step_waited hb hc hi hu
      obtain ⟨n, t, hlen, hlat, hrun, hmoves, hkeep'⟩ := ih hevent.1 (everyStepKeepsTheInvariant s u h hu)
        (hkeep.busy.trans hb) (hkeep.stuck.trans hs) hrest
      have hwait := (nextTurn_eq_host hb hs (h.turn_chosen.symm.trans hturn)).2
      rw [hkeep.accepted, hevent.2] at hlat
      refine ⟨n + 1, t, ?_, by omega, (run_succ hu n).trans hrun, hmoves, hkeep.trans hkeep'⟩
      simpa using hlen

/-- Settles O54, by `run_to_completion`. -/
theorem pendingCommandComesToCompletion : Obligations.PendingCommandComesToCompletion := by
  intro s h hb hs hreset
  obtain ⟨n, t, hlen, hlat, hrun, hmoves, hkeep⟩ := run_to_completion s.inbox rfl h hb hs hreset
  exact ⟨n, t, hlen, hlat, hrun, hmoves, hkeep.stuck.trans hs, hkeep.pend, hkeep.key, hkeep.rk, hkeep.buf⟩

end Sys2Proof.Machine
end
